-- ==== Sys2Proof/Word.lean ====
section
/-! DEFINITION. The word widths of the block (R7): a byte is 8 bits, a CRC value 16, a command
word 32. All values are unsigned. -/

namespace Sys2Proof

/-- A wire or payload byte (R7). -/
abbrev Byte := BitVec 8

/-- A CRC value, a response's data, an `H16` operand (R7). -/
abbrev Half := BitVec 16

/-- A command word or a response word (R7, R70, R79). -/
abbrev Word := BitVec 32

end Sys2Proof
end

