-- ==== Sys2Proof/Config.lean ====
section
/-! DEFINITION. The parameters of an instance of the block (R5, R29) and the model's two free
values: the receive limit of the reset state's profile, and the transport's undrawn answers. -/

namespace Sys2Proof

/-- `CRC_ORDER` (R5, R52): `be` sends bits 15:8 first, `le` bits 7:0 first. -/
inductive CrcOrder where
  | be
  | le
deriving DecidableEq, Repr

/-- The transport's answer to one offered byte (R31). -/
inductive Answer where
  /-- the byte is on the wire -/
  | accepted
  /-- the byte is not on the wire -/
  | failed
deriving DecidableEq, Repr, Inhabited

/-- The implementation parameters of R5. They are configuration: no command reads or writes them
as such and reset does not change them (R29). -/
structure Params where
  /-- `FLAG`, the delimiter and terminator byte. -/
  flag : Byte
  /-- `ESC`, the escape byte. -/
  esc : Byte
  /-- `XMASK`, XORed into an escaped byte. -/
  xmask : Byte
  /-- `EXTRA`, further byte values the TX escaper escapes; the set of the list's entries (log 10). -/
  extra : List Byte
  /-- `POLY`, the CRC generator polynomial without its x^16 term. -/
  poly : Half
  /-- `SEED`, the CRC of the empty sequence. -/
  seed : Half
  /-- `CRC_ORDER`. -/
  crcOrder : CrcOrder
  /-- `RX_MAX`, the most unescaped bytes, CRC included, of one received frame. -/
  rxMax : Nat
deriving DecidableEq, Repr

/-- `RSV = {FLAG, ESC} ∪ EXTRA` (R130), as a list. -/
def Params.reservedBytes (p : Params) : List Byte := p.flag :: p.esc :: p.extra

/-- The named configuration `DEFAULT` of R5, for a given `RX_MAX` (which has no default, D9). -/
def Params.defaultProfile (rxMax : Nat) : Params where
  flag := 0x7E
  esc := 0x7D
  xmask := 0x20
  extra := []
  poly := 0x1021
  seed := 0xFFFF
  crcOrder := .be
  rxMax := rxMax

/-- FREE VALUE (log 2): how far the reset state's `RX_MAX` lies above the least value R6 allows.
Uninterpreted: R5 and D9 leave `RX_MAX` open. -/
opaque Config.rxMaxBeyondTwo : Nat

/-- FREE VALUE (log 6): the transport's answer to the offered byte number `n`, where State lists no
answer for it. Uninterpreted: R31 makes each answer a draw. -/
opaque Config.transportAnswer : Nat → Answer

/-- The parameter set of `State.reset`: `DEFAULT` with an `RX_MAX` of which only `2 ≤ RX_MAX` is
known (log 2, log 3). -/
def Config.params : Params := Params.defaultProfile (Config.rxMaxBeyondTwo + 2)

end Sys2Proof
end

