-- ==== Sys2Proof/Syntax.lean ====
section
/-! DEFINITION. The commands of the block: one constructor per row of R72. -/

namespace Sys2Proof

/-- A command (R72). Each operand has exactly the width its form's value field has (R71), so no
term carries an operand its encoding could not hold. -/
inductive Instr where
  /-- `NOP` (R200). -/
  | nop
  /-- `RESET mask` (R201). -/
  | reset (mask : BitVec 3)
  /-- `QUERY sel` (R202). -/
  | query (sel : BitVec 2)
  /-- `CRC.INIT` (R104). -/
  | crcInit
  /-- `CRC.LOAD v` (R105). -/
  | crcLoad (v : Half)
  /-- `CRC.UPDATE b` (R106). -/
  | crcUpdate (b : Byte)
  /-- `CRC.READ` (R107). -/
  | crcRead
  /-- `TX.START` (R132). -/
  | txStart
  /-- `TX.DATA b` (R133). -/
  | txData (b : Byte)
  /-- `TX.END` (R134). -/
  | txEnd
  /-- `RX.BYTE b` (R168). -/
  | rxByte (b : Byte)
deriving DecidableEq, Repr

end Sys2Proof
end

