-- ==== Sys2Proof/WellFormed.lean ====
section
/-! DEFINITION. What must be checked before it means anything: a parameter set (R6). The operand
forms stand here; which written values fit them (R76) is `Form.fits` in Decode.lean. A term of
`Instr` needs no check: its operand widths are its types. -/

namespace Sys2Proof

/-- R6: `FLAG != ESC`. -/
def Params.flagIsNotEsc (p : Params) : Bool := p.flag != p.esc

/-- R6: `XMASK != 0x00`. -/
def Params.maskIsNotZero (p : Params) : Bool := p.xmask != 0

/-- R6: `RX_MAX >= 2`. -/
def Params.limitHoldsCrc (p : Params) : Bool := Nat.ble 2 p.rxMax

/-- R6: for every `r` in `RSV`, `r XOR XMASK` is neither `FLAG` nor `ESC`. -/
def Params.escapedFormsAreFree (p : Params) : Bool :=
  p.reservedBytes.all fun r => (r ^^^ p.xmask) != p.flag && (r ^^^ p.xmask) != p.esc

/-- R6: the parameter set is well formed. -/
def Params.wellFormed (p : Params) : Bool :=
  p.flagIsNotEsc && p.maskIsNotZero && p.limitHoldsCrc && p.escapedFormsAreFree

/-- The operand forms of R71. -/
inductive Form where
  /-- no value -/
  | z
  /-- a byte, `OPD[7:0]` -/
  | b8
  /-- a 16-bit value, `OPD[15:0]` -/
  | h16
  /-- a unit mask, `OPD[2:0]` -/
  | m3
  /-- a `QUERY` selector, `OPD[1:0]` -/
  | s2
deriving DecidableEq, Repr

end Sys2Proof
end

