-- ==== Sys2Proof/Decode.lean ====
section
/-! DEFINITION. The command encoding (R70 to R75, R78): fields, the opcode map, the values a form
takes, the total decoder and the encoder; and the reserved bytes of R130. -/

namespace Sys2Proof

/-- The opcodes of R72, one per row. -/
inductive Opcode where
  | nop
  | reset
  | query
  | crcInit
  | crcLoad
  | crcUpdate
  | crcRead
  | txStart
  | txData
  | txEnd
  | rxByte
deriving DecidableEq, Repr

/-- Every opcode, in the order of R72. -/
def Opcode.all : List Opcode :=
  [.nop, .reset, .query, .crcInit, .crcLoad, .crcUpdate, .crcRead, .txStart, .txData, .txEnd,
    .rxByte]

/-- The `OP` value of R72. -/
def Opcode.code : Opcode → Byte
  | .nop => 0x00
  | .reset => 0x01
  | .query => 0x02
  | .crcInit => 0x10
  | .crcLoad => 0x11
  | .crcUpdate => 0x12
  | .crcRead => 0x13
  | .txStart => 0x20
  | .txData => 0x21
  | .txEnd => 0x22
  | .rxByte => 0x30

/-- The operand form of R72. -/
def Opcode.form : Opcode → Form
  | .nop => .z
  | .reset => .m3
  | .query => .s2
  | .crcInit => .z
  | .crcLoad => .h16
  | .crcUpdate => .b8
  | .crcRead => .z
  | .txStart => .z
  | .txData => .b8
  | .txEnd => .z
  | .rxByte => .b8

/-- The opcode whose `OP` value is `b`; none for the reserved values of R74. -/
def opcodeOf (b : Byte) : Option Opcode := Opcode.all.find? fun o => o.code == b

/-- R70: `OP`, bits 31:24. -/
def opField (w : Word) : Byte := w.extractLsb' 24 8

/-- R70: `RSV`, bits 23:16. -/
def rsvField (w : Word) : Byte := w.extractLsb' 16 8

/-- R70: `OPD`, bits 15:0. -/
def opdField (w : Word) : Half := w.extractLsb' 0 16

/-- R71: the bits of `OPD` that must be zero, as a mask. -/
def Form.mustBeZero : Form → Half
  | .z => 0xFFFF
  | .b8 => 0xFF00
  | .h16 => 0x0000
  | .m3 => 0xFFF8
  | .s2 => 0xFFFC

/-- How many bits the form's value field has (R71). -/
def Form.valueBits : Form → Nat
  | .z => 0
  | .b8 => 8
  | .h16 => 16
  | .m3 => 3
  | .s2 => 2

/-- R76: an operand as written, `none` where nothing is written. It fits if the form has a value
field and the value fits it, or if the form has none and nothing is written. -/
def Form.fits : Form → Option Nat → Bool
  | .z, none => true
  | .z, some _ => false
  | _, none => false
  | f, some v => Nat.blt v (2 ^ f.valueBits)

/-- The command of an opcode, its operand read from `OPD` as its form says (R71). -/
def Opcode.command (opd : Half) : Opcode → Instr
  | .nop => .nop
  | .reset => .reset (opd.extractLsb' 0 3)
  | .query => .query (opd.extractLsb' 0 2)
  | .crcInit => .crcInit
  | .crcLoad => .crcLoad opd
  | .crcUpdate => .crcUpdate (opd.extractLsb' 0 8)
  | .crcRead => .crcRead
  | .txStart => .txStart
  | .txData => .txData (opd.extractLsb' 0 8)
  | .txEnd => .txEnd
  | .rxByte => .rxByte (opd.extractLsb' 0 8)

/-- Why a word is illegal (R73). The block makes no difference between them (R222); the names are
the model's, and the first that applies in this order is given (log 9). -/
inductive IllegalWord where
  /-- `OP` is not in the table (R74) -/
  | reservedOpcode
  /-- `RSV != 0` -/
  | reservedField
  /-- a must-be-zero bit of `OPD` is set -/
  | operandBits
deriving DecidableEq, Repr

/-- R73: every word is one row's command or illegal. -/
def decode (w : Word) : Except IllegalWord Instr :=
  match opcodeOf (opField w) with
  | none => .error .reservedOpcode
  | some o =>
    if rsvField w ≠ 0 then .error .reservedField
    else if opdField w &&& o.form.mustBeZero ≠ 0 then .error .operandBits
    else .ok (o.command (opdField w))

/-- The row of a command. -/
def Instr.opcode : Instr → Opcode
  | .nop => .nop
  | .reset _ => .reset
  | .query _ => .query
  | .crcInit => .crcInit
  | .crcLoad _ => .crcLoad
  | .crcUpdate _ => .crcUpdate
  | .crcRead => .crcRead
  | .txStart => .txStart
  | .txData _ => .txData
  | .txEnd => .txEnd
  | .rxByte _ => .rxByte

/-- `OPD` of a command: its value in the low bits, the upper bits zero (R78). -/
def Instr.operand : Instr → Half
  | .nop => 0
  | .reset mask => mask.setWidth 16
  | .query sel => sel.setWidth 16
  | .crcInit => 0
  | .crcLoad v => v
  | .crcUpdate b => b.setWidth 16
  | .crcRead => 0
  | .txStart => 0
  | .txData b => b.setWidth 16
  | .txEnd => 0
  | .rxByte b => b.setWidth 16

/-- The word of a command: `OP`, then `RSV = 0`, then `OPD` (R70, R78). -/
def encode (i : Instr) : Word := i.opcode.code ++ 0#8 ++ i.operand

/-- One row of the opcode map, as R72 prints it. -/
structure Row where
  mnemonic : String
  opcode : Opcode
  pattern : Word
  mask : Word
deriving DecidableEq, Repr

/-- The opcode map of R72, its `match` and `mask` columns transcribed. -/
def opcodeTable : List Row :=
  [⟨"NOP", .nop, 0x00000000, 0xFFFFFFFF⟩,
   ⟨"RESET", .reset, 0x01000000, 0xFFFFFFF8⟩,
   ⟨"QUERY", .query, 0x02000000, 0xFFFFFFFC⟩,
   ⟨"CRC.INIT", .crcInit, 0x10000000, 0xFFFFFFFF⟩,
   ⟨"CRC.LOAD", .crcLoad, 0x11000000, 0xFFFF0000⟩,
   ⟨"CRC.UPDATE", .crcUpdate, 0x12000000, 0xFFFFFF00⟩,
   ⟨"CRC.READ", .crcRead, 0x13000000, 0xFFFFFFFF⟩,
   ⟨"TX.START", .txStart, 0x20000000, 0xFFFFFFFF⟩,
   ⟨"TX.DATA", .txData, 0x21000000, 0xFFFFFF00⟩,
   ⟨"TX.END", .txEnd, 0x22000000, 0xFFFFFFFF⟩,
   ⟨"RX.BYTE", .rxByte, 0x30000000, 0xFFFFFF00⟩]

/-- R72: a word selects a row if and only if `(w AND mask) = match`. -/
def Row.selects (r : Row) (w : Word) : Bool := w &&& r.mask == r.pattern

/-- The value of the low `nbits` bits the opcode table numbers, as one command word. A command is
one 32-bit word (R75), carried whole (R53), so no byte order enters. -/
def tableWord (nbits w : Nat) : Word := BitVec.ofNat 32 (w % 2 ^ nbits)

/-- What the decoder reads from an instruction whose bits are `w`. -/
def decodeTableWord (nbits w : Nat) : Option Instr :=
  if w % 2 ^ nbits < 2 ^ 32 then (decode (tableWord nbits w)).toOption else none

/-- Whether `b` is in `RSV` (R130). -/
def Params.reserved (p : Params) (b : Byte) : Bool := p.reservedBytes.contains b

end Sys2Proof
end

