-- ==== Sys2Proof/Machine/State.lean ====
section
/-! DEFINITION. The state of the block (R20 to R27), its inputs and outputs (R30 to R33), the
reasons a step can stop, and the state after reset (R34, R250). -/

namespace Sys2Proof.Machine

/-- `TX_STATE` (R22). -/
inductive TxState where
  /-- `TX_IDLE` (0) -/
  | idle
  /-- `TX_IN_FRAME` (1) -/
  | inFrame
deriving DecidableEq, Repr

/-- `RX_STATE` (R24, R160). The value 3 is never held. -/
inductive RxState where
  /-- `RX_HUNT` (0): bytes are discarded until a `FLAG` -/
  | hunt
  /-- `RX_DATA` (1): a frame is open -/
  | data
  /-- `RX_ESC` (2): a frame is open and the last byte was `ESC` -/
  | esc
deriving DecidableEq, Repr

/-- The status of a response (R221). Codes 5 and 6 are reserved and have no constructor. -/
inductive Status where
  /-- 0: the command did what its rule says -/
  | ok
  /-- 1: kept for a surrounding Session, never returned (R225) -/
  | capacityExceeded
  /-- 2: kept for a surrounding Session, never returned (R225) -/
  | corruption
  /-- 3: a TX command in the wrong `TX_STATE` (R223) -/
  | protocolViolation
  /-- 4: the transport refused a byte of a TX command (R224) -/
  | transportWriteFailure
  /-- 7: the word matches no row of R72 (R222) -/
  | illegalCommand
deriving DecidableEq, Repr

/-- One response: a status and a 16-bit data value (R30, R79). -/
structure Response where
  status : Status
  data : Half
deriving DecidableEq, Repr

/-- The reason of a `SinkDone` (R162). Codes 5 to 7 are reserved and have no constructor. -/
inductive Reason where
  /-- 0: the frame is valid -/
  | none
  /-- 1: received CRC differs from computed CRC -/
  | crcMismatch
  /-- 2: terminator after exactly one unescaped byte -/
  | runt
  /-- 3: `ESC` not followed by an escaped reserved value -/
  | badEscape
  /-- 4: an unescaped byte beyond `RX_MAX` -/
  | overflow
deriving DecidableEq, Repr

/-- An event on the sink port (R32). -/
inductive SinkEvent where
  /-- `SinkWrite(b)` -/
  | write (b : Byte)
  /-- `SinkDone(valid, reason)` -/
  | done (valid : Bool) (reason : Reason)
deriving DecidableEq, Repr

/-- What the environment presents to the block between two steps (log 4, log 5). -/
inductive Input where
  /-- a command word on the command port (R30) -/
  | word (w : Word)
  /-- the platform asserts reset (R250) -/
  | assertReset
deriving DecidableEq, Repr

/-- The machine: the seven elements of R20, and beside them the model's own fields, which hold what
R9 gives a step as arguments (parameters, inputs, transport answers) and takes as results
(responses, wire bytes, sink events). -/
structure State where
  /-- MODEL's own: the parameter set (R5, R29; log 1). -/
  cfg : Params
  /-- `CRC_ACC` (R21). -/
  crcAcc : Half
  /-- `TX_STATE` (R22). -/
  txState : TxState
  /-- `TX_CRC` (R23). -/
  txCrc : Half
  /-- `RX_STATE` (R24). -/
  rxState : RxState
  /-- `RX_CRC` (R25). -/
  rxCrc : Half
  /-- `RX_COUNT` (R26). -/
  rxCount : Nat
  /-- `RX_HOLD`, oldest byte first (R27). -/
  rxHold : List Byte
  /-- MODEL's own: the inputs the environment presents, next first (R30; log 4). -/
  inputs : List Input
  /-- MODEL's own: the transport's answers to the next offered bytes, next first (R31; log 6). -/
  answers : List Answer
  /-- MODEL's own: how many bytes have been offered to the wire TX port (log 6). -/
  offers : Nat
  /-- MODEL's own: the responses given, oldest first (R33 (1); log 7). -/
  responses : List Response
  /-- MODEL's own: the wire bytes the transport accepted, oldest first (R33 (2); log 7). -/
  wire : List Byte
  /-- MODEL's own: the sink events emitted, oldest first (R33 (3); log 7). -/
  sink : List SinkEvent
deriving DecidableEq, Repr

/-- The block has no faults: no command raises an exception and no error is fatal (R220), so
nothing raises one. -/
inductive Fault where
deriving DecidableEq, Repr

/-- Why a step may give no next state. -/
inductive Refusal where
  /-- Raised by `exec` for a command that has no meaning in the model. Safe. -/
  | notModelled (mnemonic : String)
  /-- Raised by `step`, before anything else, where the parameter set breaks R6: the spec says that
  a model refuses it (R6, I27). Safe. -/
  | badConfiguration
  /-- Raised by `RX.BYTE` at a terminator where `RX_COUNT >= 2` and `RX_HOLD` holds fewer than two
  bytes: R35 (a) rules the state out and lets a model refuse it (log 8). Safe. -/
  | brokenHoldback
deriving DecidableEq, Repr

/-- The block right after reset, for a parameter set: R34 for the seven elements; no inputs, no
drawn answers, no outputs (R250: reset emits nothing; log 4, log 6, log 7). -/
def State.resetWith (p : Params) : State where
  cfg := p
  crcAcc := p.seed
  txState := .idle
  txCrc := p.seed
  rxState := .hunt
  rxCrc := p.seed
  rxCount := 0
  rxHold := []
  inputs := []
  answers := []
  offers := 0
  responses := []
  wire := []
  sink := []

/-- The block right after reset, in the profile `DEFAULT` with an uninterpreted `RX_MAX` (log 2,
log 3). -/
def State.reset : State := State.resetWith Config.params

end Sys2Proof.Machine
end

