-- ==== Sys2Proof/Machine/Flags.lean ====
section
/-! DEFINITION. The block has no flags (R28). What a status computation is here: the codes of
statuses and reasons (R162, R221), the response word (R79) and `STATUS_WORD` (R203). -/

namespace Sys2Proof.Machine

/-- R221: the 3-bit code of a status. -/
def Status.code : Status → BitVec 3
  | .ok => 0
  | .capacityExceeded => 1
  | .corruption => 2
  | .protocolViolation => 3
  | .transportWriteFailure => 4
  | .illegalCommand => 7

/-- R162: the 3-bit code of a reason. -/
def Reason.code : Reason → BitVec 3
  | .none => 0
  | .crcMismatch => 1
  | .runt => 2
  | .badEscape => 3
  | .overflow => 4

/-- R79: the response word, `[31:19] = 0`, `[18:16] = status`, `[15:0] = data`. -/
def Response.word (r : Response) : Word := 0#13 ++ r.status.code ++ r.data

/-- R20, R203: the code of `TX_STATE`. -/
def TxState.code : TxState → BitVec 1
  | .idle => 0
  | .inFrame => 1

/-- R24, R203: the code of `RX_STATE`. -/
def RxState.code : RxState → BitVec 2
  | .hunt => 0
  | .data => 1
  | .esc => 2

/-- R203: `STATUS_WORD`, a view of the state elements: `HOLD_N` in `[4:3]`, `RX_STATE` in `[2:1]`,
`TX_STATE` in `[0]`, the rest zero. -/
def State.statusWord (s : State) : Half :=
  0#11 ++ BitVec.ofNat 2 s.rxHold.length ++ s.rxState.code ++ s.txState.code

/-- R202: `RX_COUNT` as `QUERY 3` returns it, saturating at 16 bits. -/
def State.saturatedCount (s : State) : Half := BitVec.ofNat 16 (min s.rxCount 0xFFFF)

end Sys2Proof.Machine
end

