-- ==== Sys2Proof/Machine/Operands.lean ====
section
/-! DEFINITION. What an operand selects (R71): the units of an `M3` mask, the value of an `S2`
selector. `B8` and `H16` operands are used as they stand. -/

namespace Sys2Proof.Machine

/-- R71, R201: mask bit 0 selects the CRC unit. -/
def selectsCrc (mask : BitVec 3) : Bool := mask.getLsbD 0

/-- R71, R201: mask bit 1 selects TX. -/
def selectsTx (mask : BitVec 3) : Bool := mask.getLsbD 1

/-- R71, R201: mask bit 2 selects RX. -/
def selectsRx (mask : BitVec 3) : Bool := mask.getLsbD 2

/-- R202: what `QUERY sel` returns. -/
def State.queried (s : State) (sel : BitVec 2) : Half :=
  if sel = 0 then s.statusWord
  else if sel = 1 then s.txCrc
  else if sel = 2 then s.rxCrc
  else s.saturatedCount

end Sys2Proof.Machine
end

