-- ==== Sys2Proof/Machine/Crc.lean ====
section
/-! DEFINITION. The CRC function (R100, R101), used by the CRC unit, the TX escaper and the RX
unescaper, and the byte order of a CRC on the wire (R52). -/

namespace Sys2Proof.Machine

/-- One turn of R100's loop: shift left by one bit, and reduce by `POLY` if bit 15 was set. -/
def crcShift (poly c : Half) : Half :=
  if c.msb then (c <<< 1) ^^^ poly else c <<< 1

/-- `n` turns of R100's loop. -/
def crcShifts (poly : Half) : Nat → Half → Half
  | 0, c => c
  | n + 1, c => crcShifts poly n (crcShift poly c)

/-- R100: `crc_step(c, b)`. -/
def crcStep (poly c : Half) (b : Byte) : Half :=
  crcShifts poly 8 (c ^^^ (b.setWidth 16 <<< 8))

/-- R101: `crc_fold(c, P)`. -/
def crcFold (poly : Half) : Half → List Byte → Half
  | c, [] => c
  | c, b :: rest => crcFold poly (crcStep poly c b) rest

/-- R101: `CRC(P) = crc_fold(SEED, P)`. -/
def crcOf (p : Params) (bytes : List Byte) : Half := crcFold p.poly p.seed bytes

/-- R52, R134: the two wire bytes of a CRC, first byte first. -/
def splitCrc (order : CrcOrder) (v : Half) : Byte × Byte :=
  match order with
  | .be => (v.extractLsb' 8 8, v.extractLsb' 0 8)
  | .le => (v.extractLsb' 0 8, v.extractLsb' 8 8)

/-- R52, R164: the CRC read back from two wire bytes, first byte first. -/
def joinCrc (order : CrcOrder) (first second : Byte) : Half :=
  match order with
  | .be => first ++ second
  | .le => second ++ first

end Sys2Proof.Machine
end

