-- ==== Sys2Proof/Machine/Ops.lean ====
section
/-! DEFINITION. The shared operations of the pseudocode (R8): writing a state element, `respond`,
`Emit` and `EmitAll`, `SinkWrite` and `SinkDone`, `FRAME_CLEAR`, reset, and taking an input. The
block takes no exception (R220, R229): an error ends a command by `respond`, and that is all. -/

namespace Sys2Proof.Machine

/-! ## Writing one element (`X <- v` of R8) -/

def State.setCrcAcc (s : State) (v : Half) : State := { s with crcAcc := v }
def State.setTxState (s : State) (v : TxState) : State := { s with txState := v }
def State.setTxCrc (s : State) (v : Half) : State := { s with txCrc := v }
def State.setRxState (s : State) (v : RxState) : State := { s with rxState := v }
def State.setRxCrc (s : State) (v : Half) : State := { s with rxCrc := v }
def State.setRxCount (s : State) (v : Nat) : State := { s with rxCount := v }
def State.setRxHold (s : State) (v : List Byte) : State := { s with rxHold := v }

/-! ## Ports -/

/-- R8: `respond(status, data)`. -/
def State.respond (s : State) (status : Status) (data : Half) : State :=
  { s with responses := s.responses ++ [⟨status, data⟩] }

/-- R8, R32: `SinkWrite(b)`. -/
def State.sinkWrite (s : State) (b : Byte) : State := { s with sink := s.sink ++ [.write b] }

/-- R8, R32: `SinkDone(valid, reason)`. -/
def State.sinkDone (s : State) (valid : Bool) (reason : Reason) : State :=
  { s with sink := s.sink ++ [.done valid reason] }

/-- The transport's answer to the `k`-th byte offered from now on (from 0): the listed one, else
the draw of that offer's number (R31; log 6). -/
def State.answerAt (s : State) (k : Nat) : Answer :=
  (s.answers.drop k).headD (Config.transportAnswer (s.offers + k))

/-- One byte has been offered: its answer is used up, and the byte is on the wire if it was
accepted (R31). -/
def State.afterOffer (s : State) (b : Byte) : State :=
  { s with
    answers := s.answers.tail
    offers := s.offers + 1
    wire := match s.answerAt 0 with
      | .accepted => s.wire ++ [b]
      | .failed => s.wire }

/-- R131: `EmitAll(bytes)`, whose `ok` is `accepted` here. -/
def emitAll : List Byte → State → Answer × State
  | [], s => (.accepted, s)
  | b :: rest, s =>
    match s.answerAt 0 with
    | .accepted => emitAll rest (s.afterOffer b)
    | .failed => (.failed, s.afterOffer b)

/-- The end of every TX command (R131 to R134): emit the bytes and respond `OK`; on a refused byte
the frame is abandoned and the response is `TRANSPORT_WRITE_FAILURE`. -/
def State.sendAndRespond (s : State) (bytes : List Byte) : State :=
  match emitAll bytes s with
  | (.accepted, t) => t.respond .ok 0
  | (.failed, t) => (t.setTxState .idle).respond .transportWriteFailure 0

/-! ## Reset -/

/-- R161: `FRAME_CLEAR`. -/
def State.frameClear (s : State) : State :=
  ((s.setRxCount 0).setRxHold []).setRxCrc s.cfg.seed

/-- R201, mask bit 0. -/
def State.resetCrc (s : State) : State := s.setCrcAcc s.cfg.seed

/-- R201, mask bit 1. -/
def State.resetTx (s : State) : State := (s.setTxState .idle).setTxCrc s.cfg.seed

/-- R201, mask bit 2. -/
def State.resetRx (s : State) : State := s.frameClear.setRxState .hunt

/-- R250: the platform asserts reset. Every element takes its value of R34; the parameters stay;
no wire byte, no sink event, no response. -/
def State.powerOn (s : State) : State :=
  { s with
    crcAcc := s.cfg.seed
    txState := .idle
    txCrc := s.cfg.seed
    rxState := .hunt
    rxCrc := s.cfg.seed
    rxCount := 0
    rxHold := [] }

/-! ## The command port -/

/-- R30: the next input and the state in which the block has taken it; none if none is pending. -/
def State.takeInput (s : State) : Option (Input × State) :=
  match s.inputs with
  | [] => none
  | x :: rest => some (x, { s with inputs := rest })

/-- The environment presents a word on the command port, to be taken next (R30; log 4). -/
def State.presentWord (s : State) (w : Word) : State :=
  { s with inputs := .word w :: s.inputs }

/-- R73, R222: an illegal word changes no state, emits nothing, responds `ILLEGAL_COMMAND`. -/
def State.rejectWord (s : State) : State := s.respond .illegalCommand 0

end Sys2Proof.Machine
end

