-- ==== Sys2Proof/Machine/Control.lean ====
section
/-! DEFINITION. The control commands `NOP`, `RESET` and `QUERY` (R200 to R203). -/

namespace Sys2Proof.Machine

/-- R200: `NOP`. -/
def execNop (s : State) : Host.Outcome State Fault Refusal := .next (s.respond .ok 0)

/-- R201: the units a mask selects are reset, in the order of the pseudocode. -/
def State.resetUnits (s : State) (mask : BitVec 3) : State :=
  let s := if selectsCrc mask then s.resetCrc else s
  let s := if selectsTx mask then s.resetTx else s
  if selectsRx mask then s.resetRx else s

/-- R201: `RESET mask`. -/
def execReset (mask : BitVec 3) (s : State) : Host.Outcome State Fault Refusal :=
  .next ((s.resetUnits mask).respond .ok 0)

/-- R202: `QUERY sel`. -/
def execQuery (sel : BitVec 2) (s : State) : Host.Outcome State Fault Refusal :=
  .next (s.respond .ok (s.queried sel))

end Sys2Proof.Machine
end

