-- ==== Sys2Proof/Machine/CrcUnit.lean ====
section
/-! DEFINITION. The commands of the CRC unit (R104 to R107). -/

namespace Sys2Proof.Machine

/-- R104: `CRC.INIT`. -/
def execCrcInit (s : State) : Host.Outcome State Fault Refusal :=
  .next ((s.setCrcAcc s.cfg.seed).respond .ok 0)

/-- R105: `CRC.LOAD v`. -/
def execCrcLoad (v : Half) (s : State) : Host.Outcome State Fault Refusal :=
  .next ((s.setCrcAcc v).respond .ok 0)

/-- R106: `CRC.UPDATE b`. -/
def execCrcUpdate (b : Byte) (s : State) : Host.Outcome State Fault Refusal :=
  .next ((s.setCrcAcc (crcStep s.cfg.poly s.crcAcc b)).respond .ok 0)

/-- R107: `CRC.READ`. -/
def execCrcRead (s : State) : Host.Outcome State Fault Refusal :=
  .next (s.respond .ok s.crcAcc)

end Sys2Proof.Machine
end

