-- ==== Sys2Proof/Machine/RxUnescaper.lean ====
section
/-! DEFINITION. The RX unescaper (R160 to R168). -/

namespace Sys2Proof.Machine

/-- R162: `ABORT(reason)`. A frame that has received no unescaped byte gives no notification. -/
def State.abort (s : State) (reason : Reason) : State :=
  (if 1 ≤ s.rxCount then s.sinkDone false reason else s).frameClear.setRxState .hunt

/-- R163, the holdback: take `d` in; if two bytes were held, the oldest is payload and leaves. -/
def State.pushHold (s : State) (d : Byte) : State :=
  match s.rxHold with
  | h :: next :: _ =>
    ((s.sinkWrite h).setRxCrc (crcStep s.cfg.poly s.rxCrc h)).setRxHold [next, d]
  | held => s.setRxHold (held ++ [d])

/-- R163: `ACCEPT(d)`. -/
def State.accept (s : State) (d : Byte) : State :=
  if s.rxCount = s.cfg.rxMax then s.abort .overflow
  else ((s.pushHold d).setRxCount (s.rxCount + 1)).setRxState .data

/-- R164, R165: open an empty frame. -/
def State.openFrame (s : State) : State := s.frameClear.setRxState .data

/-- R164, `RX_COUNT >= 2`: the notification, from comparing the held bytes with `RX_CRC`. -/
def State.checkCrc (s : State) (first second : Byte) : State :=
  if joinCrc s.cfg.crcOrder first second = s.rxCrc then s.sinkDone true .none
  else s.sinkDone false .crcMismatch

/-- R164: `END_FRAME`. None where the rule reads a held byte that is not there, which R35 (a) rules
out (log 8). -/
def State.endFrame (s : State) : Option State :=
  if s.rxCount = 0 then some s.openFrame
  else if s.rxCount = 1 then some (s.sinkDone false .runt).openFrame
  else match s.rxHold with
    | first :: second :: _ => some (s.checkCrc first second).openFrame
    | _ => none

/-- R165: a byte in `RX_HUNT`. -/
def State.huntByte (s : State) (b : Byte) : State :=
  if b = s.cfg.flag then s.openFrame else s

/-- R166: a byte in `RX_DATA`. -/
def State.dataByte (s : State) (b : Byte) : Option State :=
  if b = s.cfg.flag then s.endFrame
  else if b = s.cfg.esc then some (s.setRxState .esc)
  else some (s.accept b)

/-- R167: whether `ESC, b` is a valid escape pairing. -/
def pairs (p : Params) (b : Byte) : Bool :=
  b != p.flag && b != p.esc && p.reserved (b ^^^ p.xmask)

/-- R167: a byte in `RX_ESC`. After an invalid pairing the byte is handled again in `RX_HUNT`. -/
def State.escByte (s : State) (b : Byte) : State :=
  if pairs s.cfg b then s.accept (b ^^^ s.cfg.xmask)
  else (s.abort .badEscape).huntByte b

/-- R168: one received wire byte, by `RX_STATE`. -/
def State.receive (s : State) (b : Byte) : Option State :=
  match s.rxState with
  | .hunt => some (s.huntByte b)
  | .data => s.dataByte b
  | .esc => some (s.escByte b)

/-- R168: `RX.BYTE b`. -/
def execRxByte (b : Byte) (s : State) : Host.Outcome State Fault Refusal :=
  match s.receive b with
  | some t => .next (t.respond .ok 0)
  | none => .refused .brokenHoldback

end Sys2Proof.Machine
end

