-- ==== Sys2Proof/Machine/TxEscaper.lean ====
section
/-! DEFINITION. The TX escaper (R130 to R134) and the frame of a payload (R135). -/

namespace Sys2Proof.Machine

/-- R130: `esc(b)`. -/
def escape (p : Params) (b : Byte) : List Byte :=
  if p.reserved b then [p.esc, b ^^^ p.xmask] else [b]

/-- R130: `esc*(bytes)`. -/
def escapeAll (p : Params) : List Byte → List Byte
  | [] => []
  | b :: rest => escape p b ++ escapeAll p rest

/-- R134: the wire bytes that close a frame whose CRC is `crc`. -/
def closing (p : Params) (crc : Half) : List Byte :=
  escape p (splitCrc p.crcOrder crc).1 ++ escape p (splitCrc p.crcOrder crc).2 ++ [p.flag]

/-- R135: `Frame(P)`. -/
def frame (p : Params) (payload : List Byte) : List Byte :=
  [p.flag] ++ escapeAll p payload ++ closing p (crcOf p payload)

/-- R132: `TX.START`. -/
def execTxStart (s : State) : Host.Outcome State Fault Refusal :=
  .next <| match s.txState with
    | .inFrame => s.respond .protocolViolation 0
    | .idle => ((s.setTxCrc s.cfg.seed).setTxState .inFrame).sendAndRespond [s.cfg.flag]

/-- R133: `TX.DATA b`. The CRC is over the unescaped byte. -/
def execTxData (b : Byte) (s : State) : Host.Outcome State Fault Refusal :=
  .next <| match s.txState with
    | .idle => s.respond .protocolViolation 0
    | .inFrame =>
      (s.setTxCrc (crcStep s.cfg.poly s.txCrc b)).sendAndRespond (escape s.cfg b)

/-- R134: `TX.END`. `TX_CRC` is not changed. -/
def execTxEnd (s : State) : Host.Outcome State Fault Refusal :=
  .next <| match s.txState with
    | .idle => s.respond .protocolViolation 0
    | .inFrame => (s.setTxState .idle).sendAndRespond (closing s.cfg s.txCrc)

end Sys2Proof.Machine
end

