-- ==== Sys2Proof/Machine/Dispatch.lean ====
section
/-! DEFINITION. One arm per command: each calls its meaning. -/

namespace Sys2Proof.Machine

def exec (i : Instr) (s : State) : Host.Outcome State Fault Refusal :=
  match i with
  | .nop => Sys2Proof.Machine.execNop s
  | .reset mask => Sys2Proof.Machine.execReset mask s
  | .query sel => Sys2Proof.Machine.execQuery sel s
  | .crcInit => Sys2Proof.Machine.execCrcInit s
  | .crcLoad v => Sys2Proof.Machine.execCrcLoad v s
  | .crcUpdate b => Sys2Proof.Machine.execCrcUpdate b s
  | .crcRead => Sys2Proof.Machine.execCrcRead s
  | .txStart => Sys2Proof.Machine.execTxStart s
  | .txData b => Sys2Proof.Machine.execTxData b s
  | .txEnd => Sys2Proof.Machine.execTxEnd s
  | .rxByte b => Sys2Proof.Machine.execRxByte b s

end Sys2Proof.Machine
end

