-- ==== Sys2Proof/Machine/Step.lean ====
section
/-! DEFINITION. One step of the block (R9, R30, R56): take the next input and run it to
completion. -/

namespace Sys2Proof.Machine

/-- A parameter set that is not well formed is refused before any step (R6). With no input pending
the block holds its state (R234). An assertion of reset is R250. A word is decoded before any state
is read or changed (R73) and run. -/
def step (s : State) : Host.Outcome State Fault Refusal :=
  if s.cfg.wellFormed then
    match s.takeInput with
    | none => .next s
    | some (.assertReset, t) => .next t.powerOn
    | some (.word w, t) =>
      match decode w with
      | .ok i => exec i t
      | .error _ => .next t.rejectWord
  else .refused .badConfiguration

/-- The word whose low bits are `w` presented on the command port, to be taken by the very next
step (R30; log 4). -/
def State.withFetchWord (s : State) (nbits w : Nat) : State :=
  s.presentWord (tableWord nbits w)

end Sys2Proof.Machine
end

