-- ==== Sys2Proof/Machine/Assembler.lean ====
section
/-! DEFINITION. The assembler of R76 and R77: source lines, the expansion of pseudo-instructions,
and the reading of a line's text. The block itself never sees any of it. -/

namespace Sys2Proof.Machine

/-! ## Lines and their expansion -/

/-- One line of source with its operand values as written: a command of R76, or one of the six
pseudo-instructions of R77. -/
inductive AsmLine where
  | command (op : Opcode) (value : Option Nat)
  | crcFeed (bytes : List Nat)
  | crcCompute (start : Nat) (bytes : List Nat)
  | txFrame (bytes : List Nat)
  | rxFeed (bytes : List Nat)
  | resetAll
deriving DecidableEq, Repr

/-- R76: one command, refused where its value does not fit. -/
def assembleCommand (op : Opcode) (value : Option Nat) : Option (List Instr) :=
  if op.form.fits value then some [op.command (BitVec.ofNat 16 (value.getD 0))] else none

/-- The same command once for each byte of a list (R77), refused where one does not fit. -/
def assembleEach (op : Opcode) : List Nat → Option (List Instr)
  | [] => some []
  | v :: rest =>
    match assembleCommand op (some v), assembleEach op rest with
    | some first, some others => some (first ++ others)
    | _, _ => none

/-- `CRC.FEED` and `RX.FEED` are written with at least one byte (R77). -/
def assembleFeed (op : Opcode) (bytes : List Nat) : Option (List Instr) :=
  if bytes.isEmpty then none else assembleEach op bytes

/-- R76, R77: the commands a line stands for; none where the assembler refuses it.
`CRC.COMPUTE c` without bytes is taken: R108 gives it for `n = 0`. -/
def assembleLine : AsmLine → Option (List Instr)
  | .command op value => assembleCommand op value
  | .crcFeed bytes => assembleFeed .crcUpdate bytes
  | .crcCompute start bytes =>
    match assembleCommand .crcLoad (some start), assembleEach .crcUpdate bytes with
    | some load, some updates => some (load ++ updates ++ [.crcRead])
    | _, _ => none
  | .txFrame bytes => (assembleEach .txData bytes).map fun data => [.txStart] ++ data ++ [.txEnd]
  | .rxFeed bytes => assembleFeed .rxByte bytes
  | .resetAll => assembleCommand .reset (some 7)

/-! ## Text (R76; the layout around the words is the model's choice, log 15) -/

/-- Space, tab or carriage return. -/
def isBlank (c : Char) : Bool := c == ' ' || c == '\t' || c == '\r'

/-- The characters without blanks at either end. -/
def trimBlanks (cs : List Char) : List Char :=
  ((cs.dropWhile isBlank).reverse.dropWhile isBlank).reverse

/-- The pieces between the occurrences of `sep`. -/
def splitAtChar (sep : Char) : List Char → List (List Char)
  | [] => [[]]
  | c :: rest =>
    if c == sep then [] :: splitAtChar sep rest
    else match splitAtChar sep rest with
      | piece :: others => (c :: piece) :: others
      | [] => [[c]]

/-- The value of a digit in a base of at most 16. -/
def digitValue (base : Nat) (c : Char) : Option Nat :=
  let n := c.toNat
  let v :=
    if 48 ≤ n && n ≤ 57 then n - 48
    else if 65 ≤ n && n ≤ 70 then n - 55
    else if 97 ≤ n && n ≤ 102 then n - 87
    else base
  if v < base then some v else none

/-- The value of a row of digits after the value read so far. -/
def digitsValue (base : Nat) : Nat → List Char → Option Nat
  | acc, [] => some acc
  | acc, c :: rest =>
    match digitValue base c with
    | some d => digitsValue base (acc * base + d) rest
    | none => none

/-- R76: a hexadecimal literal with the `0x` prefix, or a decimal literal. -/
def literalValue : List Char → Option Nat
  | [] => none
  | ['0', 'x'] => none
  | '0' :: 'x' :: digits => digitsValue 16 0 digits
  | digits => digitsValue 10 0 digits

/-- The operand values of a line, between commas. -/
def operandValues (cs : List Char) : Option (List Nat) :=
  if cs.isEmpty then some []
  else (splitAtChar ',' cs).foldr
    (fun piece acc => match literalValue (trimBlanks piece), acc with
      | some v, some vs => some (v :: vs)
      | _, _ => none) (some [])

/-- The line of a pseudo-instruction (R77), by its mnemonic in capitals. -/
def pseudoLine (name : List Char) (values : List Nat) : Option AsmLine :=
  if name == "CRC.FEED".toList then some (.crcFeed values)
  else if name == "CRC.COMPUTE".toList then
    match values with
    | start :: bytes => some (.crcCompute start bytes)
    | [] => none
  else if name == "TX.FRAME".toList then some (.txFrame values)
  else if name == "RX.FEED".toList then some (.rxFeed values)
  else if name == "RESET.ALL".toList && values.isEmpty then some .resetAll
  else none

/-- The line of a mnemonic in capitals and its values: a row of R72 or a pseudo-instruction. -/
def namedLine (name : List Char) (values : List Nat) : Option AsmLine :=
  match opcodeTable.find? fun r => r.mnemonic.toList == name with
  | some r =>
    match values with
    | [] => some (.command r.opcode none)
    | [v] => some (.command r.opcode (some v))
    | _ => none
  | none => pseudoLine name values

/-- R76: the commands of one line of text. A comment runs from `;` to the end of the line; an empty
line stands for no command; mnemonics are read without regard to case. -/
def assembleText (line : List Char) : Option (List Instr) :=
  match trimBlanks (line.takeWhile fun c => c != ';') with
  | [] => some []
  | body =>
    let name := body.takeWhile fun c => !isBlank c
    let rest := trimBlanks (body.dropWhile fun c => !isBlank c)
    match operandValues rest with
    | none => none
    | some values =>
      match namedLine (name.map Char.toUpper) values with
      | some l => assembleLine l
      | none => none

/-- A program: its lines' commands, one after another; none where a line is refused. -/
def assembleLines : List (List Char) → Option (List Instr)
  | [] => some []
  | line :: rest =>
    match assembleText line, assembleLines rest with
    | some first, some others => some (first ++ others)
    | _, _ => none

/-- A program's text, split at line ends. -/
def assembleProgram (text : List Char) : Option (List Instr) :=
  assembleLines (splitAtChar '\n' text)

end Sys2Proof.Machine
end

