-- ==== Sys2Proof/Safety.lean ====
section
/-! DEFINITION. The terms claims are stated in: the state invariants (R35), a run of commands, the
reference decoder of a frame body, and which elements a state shares with another. -/

namespace Sys2Proof.Machine

/-! ## States -/

/-- R35: the invariants of reachable states. (e), `RX_STATE` is never 3, holds by its type. -/
structure State.Inv (s : State) : Prop where
  /-- R35 (a) -/
  hold_length : s.rxHold.length = min s.rxCount 2
  /-- R35 (b) -/
  count_le_max : s.rxCount ≤ s.cfg.rxMax
  /-- R35 (c) -/
  hunt_is_clear : s.rxState = .hunt → s.rxCount = 0 ∧ s.rxHold = [] ∧ s.rxCrc = s.cfg.seed
  /-- R35 (d) -/
  crc_is_seed : s.rxCount ≤ 2 → s.rxCrc = s.cfg.seed

/-- The RX unescaper is in an open frame that has received nothing (R164, R172). -/
abbrev State.freshFrame (s : State) : Prop :=
  s.rxState = .data ∧ s.rxCount = 0 ∧ s.rxHold = [] ∧ s.rxCrc = s.cfg.seed

/-- The next `n` offered bytes will be accepted (the profile `RELIABLE` of R31, as far as `n`
offers reach). -/
abbrev State.acceptsNext (s : State) (n : Nat) : Prop := ∀ k, k < n → s.answerAt k = .accepted

/-- Among the next `n` offered bytes the first to be refused is number `k` (R131). -/
abbrev State.refusesAt (s : State) (n k : Nat) : Prop :=
  k < n ∧ s.acceptsNext k ∧ s.answerAt k = .failed

/-- The state after all of `bytes` went out (R131). -/
def State.afterAccepted (s : State) (bytes : List Byte) : State :=
  { s with
    wire := s.wire ++ bytes
    answers := s.answers.drop bytes.length
    offers := s.offers + bytes.length }

/-- The state after the first `k` of `bytes` went out and the next was refused (R131). -/
def State.afterRefused (s : State) (bytes : List Byte) (k : Nat) : State :=
  { s with
    wire := s.wire ++ bytes.take k
    answers := s.answers.drop (k + 1)
    offers := s.offers + (k + 1) }

/-- The two states agree on the CRC unit's element. -/
abbrev sameCrcUnit (s t : State) : Prop := t.crcAcc = s.crcAcc

/-- The two states agree on the TX escaper's elements. -/
abbrev sameTx (s t : State) : Prop := t.txState = s.txState ∧ t.txCrc = s.txCrc

/-- The two states agree on the RX unescaper's elements. -/
abbrev sameRx (s t : State) : Prop :=
  t.rxState = s.rxState ∧ t.rxCrc = s.rxCrc ∧ t.rxCount = s.rxCount ∧ t.rxHold = s.rxHold

/-- The two states agree on every element of R20. -/
abbrev sameElements (s t : State) : Prop := sameCrcUnit s t ∧ sameTx s t ∧ sameRx s t

/-- The two states agree on the transport's answers still to come (R31). -/
abbrev sameTransport (s t : State) : Prop := t.answers = s.answers ∧ t.offers = s.offers

/-- The two states agree on the configuration (R29). -/
abbrev sameConfig (s t : State) : Prop := t.cfg = s.cfg

/-- The same state whose outputs so far are preceded by others: what an observer who came earlier
has seen (R33). -/
def State.withEarlierOutputs (s : State) (responses : List Response) (wire : List Byte)
    (sink : List SinkEvent) : State :=
  { s with
    responses := responses ++ s.responses
    wire := wire ++ s.wire
    sink := sink ++ s.sink }

/-! ## Words and units -/

/-- R73: of the words with this `OP`, those that are not `legal` are illegal. -/
def illegalUnless (op : Byte) (legal : Word → Prop) : Prop :=
  ∀ w, opField w = op → ¬ legal w → ∃ e, decode w = .error e

/-- The units of R2 that have state of their own (R61). -/
inductive BlockUnit where
  | crc
  | tx
  | rx
deriving DecidableEq, Repr

/-- R2: the unit a command belongs to; none for the control commands. -/
def unitOf : Instr → Option BlockUnit
  | .nop | .reset _ | .query _ => none
  | .crcInit | .crcLoad _ | .crcUpdate _ | .crcRead => some .crc
  | .txStart | .txData _ | .txEnd => some .tx
  | .rxByte _ => some .rx

/-! ## Runs (R33) -/

/-- The commands one after another, stopping where one gives no next state (R58). -/
def runCommands : List Instr → State → Host.Outcome State Fault Refusal
  | [], s => .next s
  | i :: rest, s =>
    match exec i s with
    | .next t => runCommands rest t
    | .fault f => .fault f
    | .refused r => .refused r

/-- `n` responses of status `OK` and data zero. -/
def okResponses (n : Nat) : List Response := List.replicate n ⟨.ok, 0⟩

/-- R77: `TX.FRAME`. -/
def txFrameCommands (payload : List Byte) : List Instr :=
  [.txStart] ++ payload.map .txData ++ [.txEnd]

/-- R77: `RX.FEED`. -/
def rxFeedCommands (bytes : List Byte) : List Instr := bytes.map .rxByte

/-- R77: `CRC.FEED`. -/
def crcFeedCommands (bytes : List Byte) : List Instr := bytes.map .crcUpdate

/-- R77, R108: `CRC.COMPUTE`. -/
def crcComputeCommands (start : Half) (bytes : List Byte) : List Instr :=
  [.crcLoad start] ++ crcFeedCommands bytes ++ [.crcRead]

/-! ## Frames, all at once -/

/-- The unescaped bytes of a frame body read as a whole: raw bytes that are neither `FLAG` nor
`ESC`, and valid escape pairs (R166, R167). None where the body holds a `FLAG`, an invalid pairing,
or ends inside a pair. -/
def unescape (p : Params) : List Byte → Option (List Byte)
  | [] => some []
  | [b] => if b = p.flag ∨ b = p.esc then none else some [b]
  | b :: c :: rest =>
    if b = p.flag then none
    else if b = p.esc then
      if pairs p c then (unescape p rest).map ((c ^^^ p.xmask) :: ·) else none
    else (unescape p (c :: rest)).map (b :: ·)

/-- R170: the payload of a frame's unescaped bytes: all but the last two. -/
def payloadOf (bytes : List Byte) : List Byte := bytes.take (bytes.length - 2)

/-- R164, R170: the unescaped bytes end in the CRC of those before them, in `CRC_ORDER`. -/
abbrev endsInCrc (p : Params) (bytes : List Byte) : Prop :=
  2 ≤ bytes.length ∧
    joinCrc p.crcOrder (bytes.getD (bytes.length - 2) 0) (bytes.getD (bytes.length - 1) 0) =
      crcOf p (payloadOf bytes)

/-- `SinkWrite` of each byte in order. -/
def sinkWrites (bytes : List Byte) : List SinkEvent := bytes.map .write

/-- The `k`-th bit of a byte sequence, the bits of a byte taken from bit 7 down to bit 0: the order
in which R100 (MSB-first) takes them. -/
def bitAt (bytes : List Byte) (k : Nat) : Bool := (bytes.getD (k / 8) 0).getMsbD (k % 8)

/-- R110: the two sequences have one length, differ, and differ only inside a window of 16
consecutive bits. -/
def differInWindow (u v : List Byte) : Prop :=
  u.length = v.length ∧ u ≠ v ∧
    ∃ start, ∀ k, k < 8 * u.length → bitAt u k ≠ bitAt v k → start ≤ k ∧ k < start + 16

end Sys2Proof.Machine
end

