-- ==== Sys2Proof/Certificates/Slice0/Obligations.lean ====
section
/-! DEFINITION. The statements for the provers. Each docstring names the rule of the spec it
formalises. A statement about a command gives the WHOLE next state as the state before with the
fields that change: what is not named is unchanged. -/

namespace Sys2Proof.Machine

open Sys2Proof

/-- The polynomial over GF(2) whose coefficient of `x^k` is bit `k` (R100). -/
noncomputable def asPolynomial {n : Nat} (v : BitVec n) : Polynomial (ZMod 2) :=
  ∑ k ∈ Finset.range n, if v.getLsbD k then Polynomial.X ^ k else 0

/-- The polynomial of a byte sequence, first byte highest (R100: MSB-first). -/
noncomputable def messagePolynomial : List Byte → Polynomial (ZMod 2)
  | [] => 0
  | b :: rest => asPolynomial b * Polynomial.X ^ (8 * rest.length) + messagePolynomial rest

end Sys2Proof.Machine

open Sys2Proof Sys2Proof.Machine

/-! ## Encoding -/

/-- R70, R71, R72, R78: decoding an encoded command gives it back, with every operand. -/
def Obligations.DecodeOfEncode : Prop := ∀ i : Instr, decode (encode i) = .ok i

/-- R72: a word is legal exactly if its `OP` is in the table, its `RSV` is zero and its must-be-zero
bits are zero; exactly if some row's mask and match select it; the row is the decoded command's,
whose encoding is the word again; and at most one row selects it. -/
def Obligations.LegalWordsAreTheTableRows : Prop :=
  ∀ w : Word,
    ((∃ i, decode w = .ok i) ↔
      ∃ o ∈ Opcode.all, opField w = o.code ∧ rsvField w = 0 ∧
        opdField w &&& o.form.mustBeZero = 0) ∧
    ((∃ i, decode w = .ok i) ↔ ∃ r ∈ opcodeTable, r.selects w = true) ∧
    (∀ i, decode w = .ok i →
      encode i = w ∧ ∃ r ∈ opcodeTable, r.selects w = true ∧ r.opcode = i.opcode) ∧
    (∀ r₁ ∈ opcodeTable, ∀ r₂ ∈ opcodeTable,
      r₁.selects w = true → r₂.selects w = true → r₁ = r₂)

/-- R78: `word = (OP << 24) OR zext_32(OPD)`; a byte, mask or selector operand is zero-extended, a
16-bit operand is `OPD` itself, and a command without operand has `OPD = 0`. -/
def Obligations.WordIsShiftedOpcodeOrOperand : Prop :=
  (∀ i : Instr,
    encode i = (i.opcode.code.setWidth 32 <<< 24) ||| i.operand.setWidth 32) ∧
  (∀ b : Byte, (Instr.crcUpdate b).operand = b.setWidth 16 ∧
    (Instr.txData b).operand = b.setWidth 16 ∧ (Instr.rxByte b).operand = b.setWidth 16) ∧
  (∀ mask : BitVec 3, (Instr.reset mask).operand = mask.setWidth 16) ∧
  (∀ sel : BitVec 2, (Instr.query sel).operand = sel.setWidth 16) ∧
  (∀ v : Half, (Instr.crcLoad v).operand = v) ∧
  (∀ i ∈ [Instr.nop, .crcInit, .crcRead, .txStart, .txEnd], i.operand = 0)

/-- R70, R72, R76: words written out from the spec's encoding decode to the commands they stand
for, one per family and operand form, and words with a forbidden bit do not decode. The names of the
three errors (`reservedOpcode`, `reservedField`, `operandBits`) are the model's choice (log 9): the
spec makes no difference between illegal words. -/
def Obligations.WrittenOutWordsDecode : Prop :=
  decode 0x00000000 = .ok .nop ∧ decode 0x01000007 = .ok (.reset 7) ∧
  decode 0x02000002 = .ok (.query 2) ∧ decode 0x11004560 = .ok (.crcLoad 0x4560) ∧
  decode 0x12000031 = .ok (.crcUpdate 0x31) ∧ decode 0x2100007E = .ok (.txData 0x7E) ∧
  decode 0x22000000 = .ok .txEnd ∧ decode 0x30000093 = .ok (.rxByte 0x93) ∧
  decode 0x03000000 = .error .reservedOpcode ∧ decode 0x11FF0000 = .error .reservedField ∧
  decode 0x21000100 = .error .operandBits

/-- R74: the 245 `OP` values outside the table, in their four ranges, are illegal whatever the
other bits. -/
def Obligations.ReservedOpcodesAreIllegal : Prop :=
  (∀ w : Word,
    (0x03#8 ≤ opField w ∧ opField w ≤ 0x0F#8) ∨ (0x14#8 ≤ opField w ∧ opField w ≤ 0x1F#8) ∨
      (0x23#8 ≤ opField w ∧ opField w ≤ 0x2F#8) ∨ 0x31#8 ≤ opField w →
    ∃ e, decode w = .error e) ∧
  ((List.range 256).countP fun n => (opcodeOf (BitVec.ofNat 8 n)).isNone) = 245

/-- R76: the assembler takes a command whose value fits its form, and the command carries exactly
that value; it refuses one that does not fit, and never truncates. -/
def Obligations.AssemblerTakesExactlyWhatFits : Prop :=
  ∀ (o : Opcode) (v : Nat),
    (o.form ≠ .z ∧ v < 2 ^ o.form.valueBits →
      ∃ i : Instr, assembleLine (.command o (some v)) = some [i] ∧ i.opcode = o ∧
        i.operand.toNat = v) ∧
    (o.form = .z ∨ 2 ^ o.form.valueBits ≤ v → assembleLine (.command o (some v)) = none) ∧
    (o.form = .z → ∃ i : Instr, assembleLine (.command o none) = some [i] ∧ i.opcode = o)

/-- R77: each pseudo-instruction stands for the sequence shown. -/
def Obligations.PseudoInstructionsExpand : Prop :=
  ∀ (start : Half) (b : Byte) (bytes : List Byte),
    assembleLine (.crcFeed ((b :: bytes).map BitVec.toNat)) =
      some ((b :: bytes).map Instr.crcUpdate) ∧
    assembleLine (.crcCompute start.toNat ((b :: bytes).map BitVec.toNat)) =
      some ([.crcLoad start] ++ (b :: bytes).map Instr.crcUpdate ++ [.crcRead]) ∧
    assembleLine (.txFrame ((b :: bytes).map BitVec.toNat)) =
      some ([.txStart] ++ (b :: bytes).map Instr.txData ++ [.txEnd]) ∧
    assembleLine (.txFrame []) = some [.txStart, .txEnd] ∧
    assembleLine (.rxFeed ((b :: bytes).map BitVec.toNat)) =
      some ((b :: bytes).map Instr.rxByte) ∧
    assembleLine .resetAll = some [.reset 7]

/-! ## The step -/

/-- R30, R56: with a well-formed parameter set, a step on a pending word that decodes takes the
word off the port and is `exec` of the decoded command. A word presented by `withFetchWord` is run
by the very next step, on the state it was presented to (the model's own convention, log 4 and
log 11). -/
def Obligations.StepRunsTheDecodedCommand : Prop :=
  (∀ (s : State) (w : Word) (rest : List Input) (i : Instr),
    s.cfg.wellFormed = true → s.inputs = .word w :: rest → decode w = .ok i →
      step s = exec i { s with inputs := rest }) ∧
  ∀ (s : State) (w : Nat) (i : Instr),
    s.cfg.wellFormed = true → w < 2 ^ 32 → decodeTableWord 32 w = some i →
      step (s.withFetchWord 32 w) = exec i s

/-- R73, R222: a word that no row selects changes no state, emits nothing, and responds
`ILLEGAL_COMMAND` with data zero. -/
def Obligations.IllegalWordOnlyResponds : Prop :=
  ∀ (s : State) (w : Word) (rest : List Input),
    s.cfg.wellFormed = true → s.inputs = .word w :: rest →
    (∀ r ∈ opcodeTable, r.selects w = false) →
      step s = .next { s with
        inputs := rest
        responses := s.responses ++ [⟨.illegalCommand, 0⟩] }

/-- R226: the status of a TX command. A word no row selects is `ILLEGAL_COMMAND` in any state; else
the wrong `TX_STATE` is `PROTOCOL_VIOLATION`, whatever the transport would answer; else a refused
byte is `TRANSPORT_WRITE_FAILURE`; else `OK`. `wrong` is the state the command must not be in and
`bytes` what it would emit. A command of no TX kind is `OK`. -/
def Obligations.StatusesAreCheckedInOrder : Prop :=
  (∀ (s : State) (w : Word) (rest : List Input),
    s.cfg.wellFormed = true → s.inputs = .word w :: rest →
    (∀ r ∈ opcodeTable, r.selects w = false) →
      ∃ t, step s = .next t ∧ t.responses = s.responses ++ [⟨.illegalCommand, 0⟩]) ∧
  (∀ (s : State) (b : Byte) (i : Instr) (wrong : TxState) (bytes : List Byte),
    (i, wrong, bytes) ∈ [(Instr.txStart, TxState.inFrame, [s.cfg.flag]),
      (.txData b, .idle, escape s.cfg b), (.txEnd, .idle, closing s.cfg s.txCrc)] →
      ∃ t st, exec i s = .next t ∧ t.responses = s.responses ++ [⟨st, 0⟩] ∧
        (s.txState = wrong → st = .protocolViolation) ∧
        (s.txState ≠ wrong → (∃ k, s.refusesAt bytes.length k) → st = .transportWriteFailure) ∧
        (s.txState ≠ wrong → s.acceptsNext bytes.length → st = .ok)) ∧
  ∀ (i : Instr) (s t : State), unitOf i ≠ some .tx → exec i s = .next t →
    ∃ d, t.responses = s.responses ++ [⟨.ok, d⟩]

/-- R250: when the platform asserts reset, every element takes its value of R34, the parameters
stay, nothing is emitted and nothing is responded; power-on and `RESET 7` give the same elements.
That the assertion is one input, taken between commands by a step of its own, and that it leaves the
other pending inputs and the transport's answers as they are, is the model's choice (log 5, DEDUCED
and unsafe), not R250's. -/
def Obligations.AssertedResetRestoresEveryElement : Prop :=
  ∀ (s : State) (rest : List Input),
    s.cfg.wellFormed = true → s.inputs = .assertReset :: rest →
      step s = .next { s with
        inputs := rest
        crcAcc := s.cfg.seed, txState := .idle, txCrc := s.cfg.seed, rxState := .hunt
        rxCrc := s.cfg.seed, rxCount := 0, rxHold := [] } ∧
      sameElements (State.resetWith s.cfg) s.powerOn ∧
      ∃ t, exec (.reset 7) s = .next t ∧ sameElements s.powerOn t

/-- R34: the elements after reset, for every parameter set. -/
def Obligations.ElementsAfterReset : Prop :=
  ∀ p : Params,
    (State.resetWith p).crcAcc = p.seed ∧ (State.resetWith p).txState = .idle ∧
    (State.resetWith p).txCrc = p.seed ∧ (State.resetWith p).rxState = .hunt ∧
    (State.resetWith p).rxCrc = p.seed ∧ (State.resetWith p).rxCount = 0 ∧
    (State.resetWith p).rxHold = []

/-- R6: a step is refused for its configuration exactly if the parameter set breaks one of the four
conditions; `DEFAULT` with any `RX_MAX >= 2` breaks none. -/
def Obligations.IllFormedParametersAreRefused : Prop :=
  (∀ s : State, step s = .refused .badConfiguration ↔
    ¬ (s.cfg.flag ≠ s.cfg.esc ∧ s.cfg.xmask ≠ 0 ∧ 2 ≤ s.cfg.rxMax ∧
      ∀ r : Byte, r = s.cfg.flag ∨ r = s.cfg.esc ∨ r ∈ s.cfg.extra →
        r ^^^ s.cfg.xmask ≠ s.cfg.flag ∧ r ^^^ s.cfg.xmask ≠ s.cfg.esc)) ∧
  ∀ n : Nat, 2 ≤ n → (Params.defaultProfile n).wellFormed = true

/-- R220: from a state within the invariants, any pending word, legal or not, completes with
exactly one response, and the state after is again one from which every word completes. -/
def Obligations.EveryWordCompletesWithOneResponse : Prop :=
  ∀ (s : State) (w : Word) (rest : List Input),
    s.cfg.wellFormed = true → s.Inv → s.inputs = .word w :: rest →
      ∃ t r, step s = .next t ∧ t.inputs = rest ∧ t.responses = s.responses ++ [r] ∧
        t.cfg = s.cfg ∧ t.Inv

/-- Where `exec` refuses, and why: only `RX.BYTE FLAG` in `RX_DATA`, with `RX_COUNT >= 2` and fewer
than two bytes held, a state R35 (a) rules out and lets a model refuse (log 8: the model's choice
to do so). -/
def Obligations.OnlyABrokenHoldbackIsRefused : Prop :=
  ∀ (i : Instr) (s : State) (r : Refusal),
    exec i s = .refused r ↔
      r = .brokenHoldback ∧ i = .rxByte s.cfg.flag ∧ s.rxState = .data ∧ 2 ≤ s.rxCount ∧
        s.rxHold.length < 2

/-! ## Control -/

/-- R200: `NOP` responds `OK` and changes nothing; only the all-zero word with its `OP` is legal. -/
def Obligations.NopOnlyResponds : Prop :=
  (∀ s : State, exec .nop s = .next { s with responses := s.responses ++ [⟨.ok, 0⟩] }) ∧
  encode .nop = 0x00000000 ∧ (Response.mk .ok 0).word = 0x00000000 ∧
  illegalUnless 0x00 fun w => w = 0x00000000

/-- R201: `RESET` gives the elements of each selected unit their reset values, leaves every other
element, emits nothing, and responds `OK`. -/
def Obligations.ResetRestoresTheSelectedUnits : Prop :=
  (∀ (mask : BitVec 3) (s : State),
    exec (.reset mask) s = .next { s with
      crcAcc := if mask.getLsbD 0 then s.cfg.seed else s.crcAcc
      txState := if mask.getLsbD 1 then .idle else s.txState
      txCrc := if mask.getLsbD 1 then s.cfg.seed else s.txCrc
      rxState := if mask.getLsbD 2 then .hunt else s.rxState
      rxCrc := if mask.getLsbD 2 then s.cfg.seed else s.rxCrc
      rxCount := if mask.getLsbD 2 then 0 else s.rxCount
      rxHold := if mask.getLsbD 2 then [] else s.rxHold
      responses := s.responses ++ [⟨.ok, 0⟩] }) ∧
  (∀ mask : BitVec 3, encode (.reset mask) = 0x01000000 ||| mask.setWidth 32) ∧
  illegalUnless 0x01 fun w => w.extractLsb' 3 21 = 0

/-- R202: `QUERY` responds `OK` with the selected datum and changes nothing; `RX_COUNT` saturates
at `0xFFFF`. -/
def Obligations.QueryReturnsTheSelectedDatum : Prop :=
  (∀ s : State,
    exec (.query 0) s = .next { s with responses := s.responses ++ [⟨.ok, s.statusWord⟩] } ∧
    exec (.query 1) s = .next { s with responses := s.responses ++ [⟨.ok, s.txCrc⟩] } ∧
    exec (.query 2) s = .next { s with responses := s.responses ++ [⟨.ok, s.rxCrc⟩] } ∧
    ∃ d : Half, exec (.query 3) s = .next { s with responses := s.responses ++ [⟨.ok, d⟩] } ∧
      d.toNat = min s.rxCount 0xFFFF) ∧
  (∀ sel : BitVec 2, encode (.query sel) = 0x02000000 ||| sel.setWidth 32) ∧
  illegalUnless 0x02 fun w => w.extractLsb' 2 22 = 0

/-- R203: the fields of `STATUS_WORD`; neither two-bit field reads 3; zero right after reset. -/
def Obligations.StatusWordFields : Prop :=
  (∀ s : State, s.rxHold.length ≤ 2 →
    s.statusWord.extractLsb' 0 1 = (if s.txState = .idle then 0 else 1) ∧
    s.statusWord.extractLsb' 1 2 =
      (if s.rxState = .hunt then 0 else if s.rxState = .data then 1 else 2) ∧
    (s.statusWord.extractLsb' 3 2).toNat = s.rxHold.length ∧
    s.statusWord.extractLsb' 5 11 = 0 ∧
    s.statusWord.extractLsb' 1 2 ≠ 3 ∧ s.statusWord.extractLsb' 3 2 ≠ 3) ∧
  ∀ p : Params, (State.resetWith p).statusWord = 0x0000

/-! ## CRC unit -/

/-- R104: `CRC.INIT` sets `CRC_ACC` to `SEED` and changes nothing else. -/
def Obligations.CrcInitLoadsTheSeed : Prop :=
  (∀ s : State, exec .crcInit s = .next { s with
    crcAcc := s.cfg.seed
    responses := s.responses ++ [⟨.ok, 0⟩] }) ∧
  encode .crcInit = 0x10000000 ∧ illegalUnless 0x10 fun w => w = 0x10000000

/-- R105: `CRC.LOAD v` sets `CRC_ACC` to `v` and changes nothing else; loading `SEED` is
`CRC.INIT`. -/
def Obligations.CrcLoadLoadsItsOperand : Prop :=
  (∀ (v : Half) (s : State), exec (.crcLoad v) s = .next { s with
    crcAcc := v
    responses := s.responses ++ [⟨.ok, 0⟩] }) ∧
  (∀ s : State, exec (.crcLoad s.cfg.seed) s = exec .crcInit s) ∧
  (∀ v : Half, encode (.crcLoad v) = 0x11000000 ||| v.setWidth 32) ∧
  (illegalUnless 0x11 fun w => rsvField w = 0) ∧
  ∀ poly : Half, crcStep poly 0x0000 0x00 = 0x0000

/-- R106: `CRC.UPDATE b` folds `b` into `CRC_ACC` and changes nothing else. (Its remark on the byte
zero is `ZeroByteChangesEveryNonzeroAccumulator`; log 16.) -/
def Obligations.CrcUpdateFoldsOneByte : Prop :=
  (∀ (b : Byte) (s : State), exec (.crcUpdate b) s = .next { s with
    crcAcc := crcStep s.cfg.poly s.crcAcc b
    responses := s.responses ++ [⟨.ok, 0⟩] }) ∧
  (∀ b : Byte, encode (.crcUpdate b) = 0x12000000 ||| b.setWidth 32) ∧
  (illegalUnless 0x12 fun w => w.extractLsb' 8 16 = 0) ∧
  crcStep 0x1021 0xFFFF 0x00 = 0xE1F0

/-- R106, the remark that the byte zero still changes `CRC_ACC` unless it is zero, for the `POLY` of
`DEFAULT`: the model expects this to FAIL, because R100 gives it a second fixed point (log 16). -/
def Obligations.ZeroByteChangesEveryNonzeroAccumulator : Prop :=
  ∀ s t : State, s.cfg.poly = 0x1021 → s.crcAcc ≠ 0x0000 → exec (.crcUpdate 0x00) s = .next t →
    t.crcAcc ≠ s.crcAcc

/-- R107: `CRC.READ` responds `OK` with `CRC_ACC` and changes nothing. -/
def Obligations.CrcReadReturnsTheAccumulator : Prop :=
  (∀ s : State, exec .crcRead s = .next { s with responses := s.responses ++ [⟨.ok, s.crcAcc⟩] }) ∧
  encode .crcRead = 0x13000000

/-- R100, R101: the fold is the remainder of a division over GF(2) by `x^16 + POLY`: the start value
times `x^(8n)`, plus the message times `x^16`, is a multiple of the generator plus the fold. -/
def Obligations.FoldIsThePolynomialRemainder : Prop :=
  ∀ (poly c : Half) (bytes : List Byte), ∃ q : Polynomial (ZMod 2),
    asPolynomial c * Polynomial.X ^ (8 * bytes.length) +
        Polynomial.X ^ 16 * messagePolynomial bytes =
      q * (Polynomial.X ^ 16 + asPolynomial poly) + asPolynomial (crcFold poly c bytes)

/-- R102: folding a concatenation is folding one part after the other, and folding the chunks of
any partition one after another from `SEED` gives the CRC of the whole. -/
def Obligations.FoldingChunksFoldsTheWhole : Prop :=
  (∀ (poly c : Half) (a b : List Byte),
    crcFold poly c (a ++ b) = crcFold poly (crcFold poly c a) b) ∧
  ∀ (p : Params) (chunks : List (List Byte)),
    chunks.foldl (crcFold p.poly) p.seed = crcOf p chunks.flatten

/-- R108: `CRC.LOAD c`, one `CRC.UPDATE` per byte, `CRC.READ` returns the fold from `c`, and `c`
itself for no bytes; feeding the value returned by one chunk into the next gives the fold of both. -/
def Obligations.ComputeSequenceReturnsTheFold : Prop :=
  (∀ (s : State) (c : Half) (bytes : List Byte),
    runCommands (crcComputeCommands c bytes) s = .next { s with
      crcAcc := crcFold s.cfg.poly c bytes
      responses := s.responses ++ okResponses (bytes.length + 1) ++
        [⟨.ok, crcFold s.cfg.poly c bytes⟩] }) ∧
  (∀ (s : State) (c : Half), runCommands (crcComputeCommands c []) s = .next { s with
      crcAcc := c
      responses := s.responses ++ [⟨.ok, 0⟩, ⟨.ok, c⟩] }) ∧
  ∀ (s : State) (c : Half) (a b : List Byte),
    ∃ t, runCommands (crcComputeCommands (crcFold s.cfg.poly c a) b) s = .next t ∧
      t.responses.getLast? = some ⟨.ok, crcFold s.cfg.poly c (a ++ b)⟩

/-- R109: a CRC followed by its own bytes, high byte first, folds to zero, for any `POLY`; so with
`CRC_ORDER = BE` a payload followed by its CRC bytes has CRC zero. -/
def Obligations.OwnCrcBytesFoldToZero : Prop :=
  (∀ poly c : Half, crcFold poly c [c.extractLsb' 8 8, c.extractLsb' 0 8] = 0x0000) ∧
  ∀ (p : Params) (payload : List Byte), p.crcOrder = .be →
    crcOf p (payload ++ [(splitCrc p.crcOrder (crcOf p payload)).1,
      (splitCrc p.crcOrder (crcOf p payload)).2]) = 0x0000

/-- R110, the substitution of one byte: with `POLY[0] = 1`, in either `CRC_ORDER`, replacing exactly
one unescaped byte of a frame that ends in its CRC makes it end in no CRC of its own. -/
def Obligations.OneReplacedByteIsDetected : Prop :=
  ∀ (p : Params) (bytes : List Byte) (k : Nat) (b : Byte),
    p.poly.getLsbD 0 = true → endsInCrc p bytes → k < bytes.length → bytes.getD k 0 ≠ b →
      ¬ endsInCrc p (bytes.set k b)

/-- R110, the burst: with `POLY[0] = 1` and `CRC_ORDER = BE`, a change inside a window of 16
consecutive bits, taken MSB-first as R100 takes them (log 14), makes a frame that ends in its CRC
end in no CRC of its own. -/
def Obligations.ShortBurstIsDetectedHighByteFirst : Prop :=
  ∀ (p : Params) (u v : List Byte),
    p.poly.getLsbD 0 = true → p.crcOrder = .be → endsInCrc p u → differInWindow u v →
      ¬ endsInCrc p v

/-- R110 read for every `CRC_ORDER`: the model expects this to FAIL for `CRC_ORDER = LE`, where the
two CRC bytes on the wire do not stand in the order of the division (log 14). -/
def Obligations.ShortBurstIsDetectedInEitherOrder : Prop :=
  ∀ (p : Params) (u v : List Byte),
    p.poly.getLsbD 0 = true → endsInCrc p u → differInWindow u v → ¬ endsInCrc p v

/-! ## TX escaper -/

/-- R130: which bytes are reserved and what a byte and a sequence become on the wire. -/
def Obligations.EscapedFormOfAByte : Prop :=
  (∀ (p : Params) (b : Byte),
    (b = p.flag ∨ b = p.esc ∨ b ∈ p.extra → escape p b = [p.esc, b ^^^ p.xmask]) ∧
    (¬ (b = p.flag ∨ b = p.esc ∨ b ∈ p.extra) → escape p b = [b])) ∧
  (∀ (p : Params), escapeAll p [] = []) ∧
  (∀ (p : Params) (b : Byte) (rest : List Byte),
    escapeAll p (b :: rest) = escape p b ++ escapeAll p rest) ∧
  ∀ n : Nat, escape (Params.defaultProfile n) 0x7E = [0x7D, 0x5E] ∧
    escape (Params.defaultProfile n) 0x7D = [0x7D, 0x5D] ∧
    ∀ b : Byte, b ≠ 0x7E → b ≠ 0x7D → escape (Params.defaultProfile n) b = [b]

/-- R131: the bytes of a TX command are offered in order. If all are accepted they are all on the
wire and the response is `OK`. If number `k` is the first refused, exactly the bytes before it are
on the wire, the frame is abandoned (`TX_IDLE`) and the response is `TRANSPORT_WRITE_FAILURE`; no
later byte is offered. -/
def Obligations.FirstRefusedByteAbandonsTheFrame : Prop :=
  ∀ (s : State) (bytes : List Byte),
    (s.acceptsNext bytes.length → s.sendAndRespond bytes = { s with
      wire := s.wire ++ bytes
      answers := s.answers.drop bytes.length
      offers := s.offers + bytes.length
      responses := s.responses ++ [⟨.ok, 0⟩] }) ∧
    (∀ k, s.refusesAt bytes.length k → s.sendAndRespond bytes = { s with
      txState := .idle
      wire := s.wire ++ bytes.take k
      answers := s.answers.drop (k + 1)
      offers := s.offers + (k + 1)
      responses := s.responses ++ [⟨.transportWriteFailure, 0⟩] }) ∧
    (s.acceptsNext bytes.length ∨ ∃ k, s.refusesAt bytes.length k)

/-- R132: `TX.START`: in a frame a protocol violation and nothing else; idle, it seeds `TX_CRC`,
opens the frame and emits `FLAG`, or stays idle if the transport refuses it. -/
def Obligations.TxStartOpensAFrame : Prop :=
  (∀ s : State, s.txState = .inFrame → exec .txStart s = .next { s with
    responses := s.responses ++ [⟨.protocolViolation, 0⟩] }) ∧
  (∀ s : State, s.txState = .idle → s.answerAt 0 = .accepted → exec .txStart s = .next { s with
    txCrc := s.cfg.seed
    txState := .inFrame
    wire := s.wire ++ [s.cfg.flag]
    answers := s.answers.drop 1
    offers := s.offers + 1
    responses := s.responses ++ [⟨.ok, 0⟩] }) ∧
  (∀ s : State, s.txState = .idle → s.answerAt 0 = .failed → exec .txStart s = .next { s with
    txCrc := s.cfg.seed
    answers := s.answers.drop 1
    offers := s.offers + 1
    responses := s.responses ++ [⟨.transportWriteFailure, 0⟩] }) ∧
  encode .txStart = 0x20000000

/-- R133: `TX.DATA b`: outside a frame a protocol violation and nothing else; inside, it folds the
unescaped byte into `TX_CRC` and emits `esc(b)`; at a refused byte the frame is abandoned, with
`TX_CRC` updated and the bytes before it on the wire. -/
def Obligations.TxDataSendsOneEscapedByte : Prop :=
  (∀ (b : Byte) (s : State), s.txState = .idle → exec (.txData b) s = .next { s with
    responses := s.responses ++ [⟨.protocolViolation, 0⟩] }) ∧
  (∀ (b : Byte) (s : State), s.txState = .inFrame → s.acceptsNext (escape s.cfg b).length →
    exec (.txData b) s = .next { s with
      txCrc := crcStep s.cfg.poly s.txCrc b
      wire := s.wire ++ escape s.cfg b
      answers := s.answers.drop (escape s.cfg b).length
      offers := s.offers + (escape s.cfg b).length
      responses := s.responses ++ [⟨.ok, 0⟩] }) ∧
  (∀ (b : Byte) (s : State) (k : Nat), s.txState = .inFrame →
    s.refusesAt (escape s.cfg b).length k →
    exec (.txData b) s = .next { s with
      txCrc := crcStep s.cfg.poly s.txCrc b
      txState := .idle
      wire := s.wire ++ (escape s.cfg b).take k
      answers := s.answers.drop (k + 1)
      offers := s.offers + (k + 1)
      responses := s.responses ++ [⟨.transportWriteFailure, 0⟩] }) ∧
  ∀ b : Byte, encode (.txData b) = 0x21000000 ||| b.setWidth 32

/-- R134, R52: `TX.END`: outside a frame a protocol violation and nothing else; inside, it emits the
escaped CRC bytes in `CRC_ORDER` and an unescaped `FLAG`, and is idle after, refused or not;
`TX_CRC` is kept. -/
def Obligations.TxEndClosesTheFrame : Prop :=
  (∀ s : State, s.txState = .idle → exec .txEnd s = .next { s with
    responses := s.responses ++ [⟨.protocolViolation, 0⟩] }) ∧
  (∀ (s : State) (c0 c1 : Byte),
    (s.cfg.crcOrder = .be → c0 = s.txCrc.extractLsb' 8 8 ∧ c1 = s.txCrc.extractLsb' 0 8) →
    (s.cfg.crcOrder = .le → c0 = s.txCrc.extractLsb' 0 8 ∧ c1 = s.txCrc.extractLsb' 8 8) →
    s.txState = .inFrame →
    s.acceptsNext (escape s.cfg c0 ++ escape s.cfg c1 ++ [s.cfg.flag]).length →
    exec .txEnd s = .next { s with
      txState := .idle
      wire := s.wire ++ (escape s.cfg c0 ++ escape s.cfg c1 ++ [s.cfg.flag])
      answers := s.answers.drop (escape s.cfg c0 ++ escape s.cfg c1 ++ [s.cfg.flag]).length
      offers := s.offers + (escape s.cfg c0 ++ escape s.cfg c1 ++ [s.cfg.flag]).length
      responses := s.responses ++ [⟨.ok, 0⟩] }) ∧
  (∀ (s : State) (c0 c1 : Byte) (k : Nat),
    (s.cfg.crcOrder = .be → c0 = s.txCrc.extractLsb' 8 8 ∧ c1 = s.txCrc.extractLsb' 0 8) →
    (s.cfg.crcOrder = .le → c0 = s.txCrc.extractLsb' 0 8 ∧ c1 = s.txCrc.extractLsb' 8 8) →
    s.txState = .inFrame →
    s.refusesAt (escape s.cfg c0 ++ escape s.cfg c1 ++ [s.cfg.flag]).length k →
    exec .txEnd s = .next { s with
      txState := .idle
      wire := s.wire ++ (escape s.cfg c0 ++ escape s.cfg c1 ++ [s.cfg.flag]).take k
      answers := s.answers.drop (k + 1)
      offers := s.offers + (k + 1)
      responses := s.responses ++ [⟨.transportWriteFailure, 0⟩] }) ∧
  encode .txEnd = 0x22000000

/-- R135: from `TX_IDLE`, over a transport that accepts every byte of it, `TX.START`, one `TX.DATA`
per payload byte and `TX.END` respond `OK` each, emit exactly `Frame(P)`, and leave `TX_IDLE` with
`TX_CRC = CRC(P)`. -/
def Obligations.TxFrameSendsExactlyTheFrame : Prop :=
  (∀ (s : State) (payload : List Byte),
    s.txState = .idle → s.acceptsNext (frame s.cfg payload).length →
    runCommands (txFrameCommands payload) s = .next { s with
      txCrc := crcOf s.cfg payload
      wire := s.wire ++ frame s.cfg payload
      answers := s.answers.drop (frame s.cfg payload).length
      offers := s.offers + (frame s.cfg payload).length
      responses := s.responses ++ okResponses (payload.length + 2) }) ∧
  ∀ (p : Params) (payload : List Byte), frame p payload =
    [p.flag] ++ escapeAll p payload ++ escape p (splitCrc p.crcOrder (crcOf p payload)).1 ++
      escape p (splitCrc p.crcOrder (crcOf p payload)).2 ++ [p.flag]

/-- R136: for a well-formed parameter set, the length of a frame is within `n + 4` and `2n + 6`;
`FLAG` is its first and its last byte and no other; every `ESC` is followed by `r XOR XMASK` for a
reserved `r`, which is neither `FLAG` nor `ESC`. -/
def Obligations.FrameHasFlagsOnlyAtItsEnds : Prop :=
  ∀ (p : Params) (payload : List Byte), p.wellFormed = true →
    payload.length + 4 ≤ (frame p payload).length ∧
    (frame p payload).length ≤ 2 * payload.length + 6 ∧
    (∀ k, (frame p payload)[k]? = some p.flag ↔ k = 0 ∨ k = (frame p payload).length - 1) ∧
    ∀ k, (frame p payload)[k]? = some p.esc →
      ∃ r, p.reserved r = true ∧ (frame p payload)[k + 1]? = some (r ^^^ p.xmask) ∧
        r ^^^ p.xmask ≠ p.flag ∧ r ^^^ p.xmask ≠ p.esc

/-- R137: every command puts at most five bytes on the wire, `TX.END` at most three if neither CRC
byte is reserved, and none responds `CAPACITY_EXCEEDED`. -/
def Obligations.NoCommandEmitsMoreThanFiveBytes : Prop :=
  ∀ (i : Instr) (s t : State), exec i s = .next t →
    ∃ bytes r, t.wire = s.wire ++ bytes ∧ bytes.length ≤ 5 ∧
      t.responses = s.responses ++ [r] ∧ r.status ≠ .capacityExceeded ∧
      (i = .txEnd → s.cfg.reserved (splitCrc s.cfg.crcOrder s.txCrc).1 = false →
        s.cfg.reserved (splitCrc s.cfg.crcOrder s.txCrc).2 = false → bytes.length ≤ 3)

/-! ## RX unescaper -/

/-- R165: a byte in `RX_HUNT`: `FLAG` opens an empty frame, any other byte is discarded; no event. -/
def Obligations.HuntWaitsForTheFlag : Prop :=
  (∀ s : State, s.rxState = .hunt → exec (.rxByte s.cfg.flag) s = .next { s with
    rxState := .data
    rxCount := 0
    rxHold := []
    rxCrc := s.cfg.seed
    responses := s.responses ++ [⟨.ok, 0⟩] }) ∧
  ∀ (b : Byte) (s : State), s.rxState = .hunt → b ≠ s.cfg.flag →
    exec (.rxByte b) s = .next { s with responses := s.responses ++ [⟨.ok, 0⟩] }

/-- R164: a `FLAG` in `RX_DATA` ends the frame and opens the next: no event for an empty frame,
`RUNT` after one byte, else valid exactly if the two held bytes, in `CRC_ORDER`, are `RX_CRC`. -/
def Obligations.TerminatorEndsAndReopens : Prop :=
  ∀ s : State, s.rxState = .data →
    (s.rxCount = 0 → exec (.rxByte s.cfg.flag) s = .next { s with
      rxHold := []
      rxCrc := s.cfg.seed
      responses := s.responses ++ [⟨.ok, 0⟩] }) ∧
    (s.rxCount = 1 → exec (.rxByte s.cfg.flag) s = .next { s with
      rxCount := 0
      rxHold := []
      rxCrc := s.cfg.seed
      sink := s.sink ++ [.done false .runt]
      responses := s.responses ++ [⟨.ok, 0⟩] }) ∧
    ∀ first second : Byte, 2 ≤ s.rxCount → s.rxHold = [first, second] →
      exec (.rxByte s.cfg.flag) s = .next { s with
        rxCount := 0
        rxHold := []
        rxCrc := s.cfg.seed
        sink := s.sink ++
          [if (match s.cfg.crcOrder with
                | .be => (first ++ second : Half)
                | .le => (second ++ first : Half)) = s.rxCrc
            then .done true .none else .done false .crcMismatch]
        responses := s.responses ++ [⟨.ok, 0⟩] }

/-- R163: an unescaped byte `d`, come raw in `RX_DATA` or as a valid pair in `RX_ESC`: at `RX_MAX`
the frame is aborted as `OVERFLOW` (with an event only if it has received a byte, R162); with fewer
than two bytes held it is held; else the oldest held byte goes to the sink and into `RX_CRC`. -/
def Obligations.AcceptedByteGoesThroughTheHoldback : Prop :=
  ∀ (s : State) (b d : Byte),
    (s.rxState = .data ∧ b ≠ s.cfg.flag ∧ b ≠ s.cfg.esc ∧ d = b) ∨
      (s.rxState = .esc ∧ b ≠ s.cfg.flag ∧ b ≠ s.cfg.esc ∧
        s.cfg.reserved (b ^^^ s.cfg.xmask) = true ∧ d = b ^^^ s.cfg.xmask) →
    (s.rxCount = s.cfg.rxMax → exec (.rxByte b) s = .next { s with
      rxState := .hunt
      rxCount := 0
      rxHold := []
      rxCrc := s.cfg.seed
      sink := s.sink ++ (if 1 ≤ s.rxCount then [.done false .overflow] else [])
      responses := s.responses ++ [⟨.ok, 0⟩] }) ∧
    (s.rxCount ≠ s.cfg.rxMax → s.rxHold.length < 2 → exec (.rxByte b) s = .next { s with
      rxState := .data
      rxCount := s.rxCount + 1
      rxHold := s.rxHold ++ [d]
      responses := s.responses ++ [⟨.ok, 0⟩] }) ∧
    ∀ first second : Byte, s.rxCount ≠ s.cfg.rxMax → s.rxHold = [first, second] →
      exec (.rxByte b) s = .next { s with
        rxState := .data
        rxCount := s.rxCount + 1
        rxHold := [second, d]
        rxCrc := crcStep s.cfg.poly s.rxCrc first
        sink := s.sink ++ [.write first]
        responses := s.responses ++ [⟨.ok, 0⟩] }

/-- R166: in `RX_DATA` a `FLAG` is `END_FRAME`; an `ESC` moves to `RX_ESC` and does nothing else;
every byte that is neither, a raw byte of `EXTRA` included, is taken as data. -/
def Obligations.DataByteIsSorted : Prop :=
  (∀ s t : State, s.rxState = .data → s.endFrame = some t →
    exec (.rxByte s.cfg.flag) s = .next (t.respond .ok 0)) ∧
  (∀ s : State, s.rxState = .data → s.cfg.esc ≠ s.cfg.flag →
    exec (.rxByte s.cfg.esc) s = .next { s with
      rxState := .esc
      responses := s.responses ++ [⟨.ok, 0⟩] }) ∧
  ∀ (b : Byte) (s : State), s.rxState = .data → b ≠ s.cfg.flag → b ≠ s.cfg.esc →
    exec (.rxByte b) s = .next ((s.accept b).respond .ok 0)

/-- R167, R162: after an `ESC`, a byte that makes no valid pair aborts the frame as `BAD_ESCAPE`
(with an event only if the frame has received a byte), and the byte is handled again in `RX_HUNT`:
a `FLAG` opens the next frame, any other is discarded. A byte that makes a valid pair is accepted
unescaped. -/
def Obligations.BrokenPairAbortsTheFrame : Prop :=
  (∀ (s : State) (b : Byte), s.rxState = .esc → b ≠ s.cfg.flag → b ≠ s.cfg.esc →
    s.cfg.reserved (b ^^^ s.cfg.xmask) = true →
    exec (.rxByte b) s = .next ((s.accept (b ^^^ s.cfg.xmask)).respond .ok 0)) ∧
  ∀ (s : State) (b : Byte), s.rxState = .esc →
    (b = s.cfg.flag ∨ b = s.cfg.esc ∨ s.cfg.reserved (b ^^^ s.cfg.xmask) = false) →
    exec (.rxByte b) s = .next { s with
      rxState := if b = s.cfg.flag then .data else .hunt
      rxCount := 0
      rxHold := []
      rxCrc := s.cfg.seed
      sink := s.sink ++ (if 1 ≤ s.rxCount then [.done false .badEscape] else [])
      responses := s.responses ++ [⟨.ok, 0⟩] }

/-- R169, R168: an `RX.BYTE` responds `OK` with data zero, emits at most one sink event and no wire
byte, and leaves the CRC unit, the TX escaper and the transport alone; its word is `0x30000000 OR b`
and no other word with its `OP` is legal. -/
def Obligations.ReceivedByteGivesAtMostOneEvent : Prop :=
  (∀ (b : Byte) (s t : State), exec (.rxByte b) s = .next t →
    ∃ events : List SinkEvent, events.length ≤ 1 ∧ t.sink = s.sink ++ events ∧
      t.responses = s.responses ++ [⟨.ok, 0⟩] ∧
      t.wire = s.wire ∧ t.crcAcc = s.crcAcc ∧ t.txState = s.txState ∧ t.txCrc = s.txCrc ∧
      sameTransport s t ∧ sameConfig s t) ∧
  (∀ b : Byte, encode (.rxByte b) = 0x30000000 ||| b.setWidth 32) ∧
  illegalUnless 0x30 fun w => w.extractLsb' 8 16 = 0

/-- R227, R32: the one cause of each reason, and a `SinkDone` is valid exactly if its reason is
`NONE`. -/
def Obligations.EachReasonHasItsOneCause : Prop :=
  ∀ (b : Byte) (s t : State) (valid : Bool) (reason : Reason),
    exec (.rxByte b) s = .next t → t.sink = s.sink ++ [.done valid reason] →
      (valid = true ↔ reason = .none) ∧
      (reason = .badEscape → s.rxState = .esc ∧ pairs s.cfg b = false ∧ 1 ≤ s.rxCount) ∧
      (reason = .overflow → s.rxCount = s.cfg.rxMax ∧
        ((s.rxState = .data ∧ b ≠ s.cfg.flag ∧ b ≠ s.cfg.esc) ∨
          (s.rxState = .esc ∧ pairs s.cfg b = true))) ∧
      (reason = .runt → s.rxState = .data ∧ b = s.cfg.flag ∧ s.rxCount = 1) ∧
      (reason = .none ∨ reason = .crcMismatch →
        s.rxState = .data ∧ b = s.cfg.flag ∧ 2 ≤ s.rxCount)

/-- R170, R162 to R167: from an open empty frame, wire bytes `body` that unescape to `u`, at most
`RX_MAX` of them, deliver all of `u` but its last two bytes and end the frame nowhere; then a `FLAG`
gives no event if `u` is empty and else one `SinkDone`, valid exactly if `u` ends in the CRC of what
was delivered; a broken pair instead gives `BAD_ESCAPE`; and at `RX_MAX` one more unescaped byte,
raw or as a pair, gives `OVERFLOW`. -/
def Obligations.FrameEventsAreThoseOfItsBytes : Prop :=
  ∀ (s : State) (body u : List Byte),
    s.cfg.wellFormed = true → s.freshFrame → unescape s.cfg body = some u →
    u.length ≤ s.cfg.rxMax →
    (∃ t, runCommands (rxFeedCommands body) s = .next t ∧ t.rxState = .data ∧
      t.rxCount = u.length ∧ t.rxHold = u.drop (u.length - 2) ∧
      t.rxCrc = crcOf s.cfg (payloadOf u) ∧ t.sink = s.sink ++ sinkWrites (payloadOf u)) ∧
    (∃ t, runCommands (rxFeedCommands (body ++ [s.cfg.flag])) s = .next t ∧ t.freshFrame ∧
      ∃ valid reason, (valid = true ↔ endsInCrc s.cfg u) ∧ (valid = true ↔ reason = .none) ∧
        t.sink = s.sink ++ sinkWrites (payloadOf u) ++
          (if u = [] then [] else [.done valid reason])) ∧
    (∀ c, pairs s.cfg c = false →
      ∃ t, runCommands (rxFeedCommands (body ++ [s.cfg.esc, c])) s = .next t ∧
        t.rxState = (if c = s.cfg.flag then .data else .hunt) ∧
        t.sink = s.sink ++ sinkWrites (payloadOf u) ++
          (if u = [] then [] else [.done false .badEscape])) ∧
    (u.length = s.cfg.rxMax → ∀ (piece : List Byte) (d : Byte), unescape s.cfg piece = some [d] →
      ∃ t, runCommands (rxFeedCommands (body ++ piece)) s = .next t ∧ t.rxState = .hunt ∧
        t.sink = s.sink ++ sinkWrites (payloadOf u) ++ [.done false .overflow])

/-- R172: feeding `Frame(P)` to a receiver that hunts or is in an empty frame delivers exactly `P`
and a valid `SinkDone`, and leaves an empty open frame, if `P` and its CRC fit `RX_MAX`; if they do
not fit, it delivers `RX_MAX - 2` bytes and an `OVERFLOW`. -/
def Obligations.ReceivedFrameDeliversItsPayload : Prop :=
  ∀ (s : State) (payload : List Byte),
    s.cfg.wellFormed = true → s.rxState = .hunt ∨ s.freshFrame →
    (payload.length + 2 ≤ s.cfg.rxMax →
      ∃ t, runCommands (rxFeedCommands (frame s.cfg payload)) s = .next t ∧ t.freshFrame ∧
        t.sink = s.sink ++ sinkWrites payload ++ [.done true .none]) ∧
    (s.cfg.rxMax < payload.length + 2 →
      ∃ t, runCommands (rxFeedCommands (frame s.cfg payload)) s = .next t ∧
        t.sink = s.sink ++ sinkWrites (payload.take (s.cfg.rxMax - 2)) ++
          [.done false .overflow])

/-- R173: from every state within the invariants, feeding `Frame(P)` gives at most one `SinkDone`
for the frame that was open before, then exactly `P` and a valid `SinkDone`; the earlier `SinkDone`
is valid only if that frame's two held bytes happened to be its CRC. -/
def Obligations.ReceiverResynchronisesOnAFrame : Prop :=
  ∀ (s : State) (payload : List Byte),
    s.cfg.wellFormed = true → s.Inv → payload.length + 2 ≤ s.cfg.rxMax →
      ∃ t earlier, runCommands (rxFeedCommands (frame s.cfg payload)) s = .next t ∧
        t.freshFrame ∧ earlier.length ≤ 1 ∧
        (∀ e ∈ earlier, ∃ valid reason, e = .done valid reason ∧
          (valid = true → s.rxState = .data ∧ ∃ first second, s.rxHold = [first, second] ∧
            joinCrc s.cfg.crcOrder first second = s.rxCrc)) ∧
        t.sink = s.sink ++ earlier ++ sinkWrites payload ++ [.done true .none]

/-- R135, R172, R253 (a): a sender and a receiver that agree on every parameter but `RX_MAX`: what
the sender's `TX.FRAME P` puts on the wire, fed to the receiver, delivers `P` and a valid
`SinkDone`. -/
def Obligations.LinkDeliversThePayload : Prop :=
  ∀ (sender receiver : State) (payload : List Byte),
    receiver.cfg.wellFormed = true → sender.cfg = { receiver.cfg with rxMax := sender.cfg.rxMax } →
    payload.length + 2 ≤ receiver.cfg.rxMax → sender.txState = .idle → sender.wire = [] →
    sender.acceptsNext (2 * payload.length + 6) → receiver.rxState = .hunt →
      ∃ sent received,
        runCommands (txFrameCommands payload) sender = .next sent ∧
        runCommands (rxFeedCommands sent.wire) receiver = .next received ∧
        received.sink = receiver.sink ++ sinkWrites payload ++ [.done true .none]

/-! ## The whole machine -/

/-- R35: the invariants hold right after reset, for every parameter set and in the model's reset
state; that state is `DEFAULT` with some `RX_MAX >= 2` (the model's choice, log 2 and log 3). -/
def Obligations.InvariantsHoldAtReset : Prop :=
  (∀ p : Params, (State.resetWith p).Inv) ∧ State.reset.Inv ∧
  ∃ n, 2 ≤ n ∧ State.reset = State.resetWith (Params.defaultProfile n)

/-- R35: every step keeps the invariants. -/
def Obligations.EveryStepKeepsTheInvariants : Prop :=
  ∀ s t : State, s.Inv → step s = .next t → t.Inv

/-- R20, the column "written by": which commands can change each element. -/
def Obligations.ElementsHaveOnlyTheirWriters : Prop :=
  ∀ (i : Instr) (s t : State), exec i s = .next t →
    (t.crcAcc ≠ s.crcAcc → i = .crcInit ∨ (∃ v, i = .crcLoad v) ∨ (∃ b, i = .crcUpdate b) ∨
      ∃ mask, i = .reset mask ∧ mask.getLsbD 0 = true) ∧
    (t.txState ≠ s.txState → i = .txStart ∨ i = .txEnd ∨
      (∃ b, i = .txData b ∧ t.responses = s.responses ++ [⟨.transportWriteFailure, 0⟩]) ∨
      ∃ mask, i = .reset mask ∧ mask.getLsbD 1 = true) ∧
    (t.txCrc ≠ s.txCrc → i = .txStart ∨ (∃ b, i = .txData b) ∨
      ∃ mask, i = .reset mask ∧ mask.getLsbD 1 = true) ∧
    (¬ sameRx s t → (∃ b, i = .rxByte b) ∨ ∃ mask, i = .reset mask ∧ mask.getLsbD 2 = true)

/-- R221, R225, R79: a command gives exactly one response; `PROTOCOL_VIOLATION` and
`TRANSPORT_WRITE_FAILURE` come from TX commands alone; no command gives the kept codes or
`ILLEGAL_COMMAND`; data is zero but for `CRC.READ` and `QUERY`, which are always `OK`; and the
fields of the response word, with the numeric codes of statuses and (R162) of reasons. -/
def Obligations.ResponsesAndTheirWords : Prop :=
  (∀ (i : Instr) (s t : State), exec i s = .next t →
    ∃ r, t.responses = s.responses ++ [r] ∧
      (r.status = .ok ∨ r.status = .protocolViolation ∨ r.status = .transportWriteFailure) ∧
      (r.status ≠ .ok → unitOf i = some .tx) ∧
      (r.data ≠ 0 → (i = .crcRead ∨ ∃ sel, i = .query sel) ∧ r.status = .ok)) ∧
  (∀ r : Response, r.word.extractLsb' 0 16 = r.data ∧ r.word.extractLsb' 16 3 = r.status.code ∧
    r.word.extractLsb' 19 13 = 0) ∧
  Status.code .ok = 0 ∧ Status.code .capacityExceeded = 1 ∧ Status.code .corruption = 2 ∧
  Status.code .protocolViolation = 3 ∧ Status.code .transportWriteFailure = 4 ∧
  Status.code .illegalCommand = 7 ∧
  Reason.code .none = 0 ∧ Reason.code .crcMismatch = 1 ∧ Reason.code .runt = 2 ∧
  Reason.code .badEscape = 3 ∧ Reason.code .overflow = 4

/-- R61, R21: a command of one unit leaves the other units' elements and outputs alone, and two
commands of different units can be taken in either order: every element, the wire, the sink and the
transport come out the same, and the two responses are the same two, in the order taken. -/
def Obligations.UnitsAreIndependent : Prop :=
  (∀ (i : Instr) (s t : State), exec i s = .next t →
    (unitOf i = some .crc → sameTx s t ∧ sameRx s t ∧ t.wire = s.wire ∧ t.sink = s.sink ∧
      sameTransport s t) ∧
    (unitOf i = some .tx → sameCrcUnit s t ∧ sameRx s t ∧ t.sink = s.sink) ∧
    (unitOf i = some .rx → sameCrcUnit s t ∧ sameTx s t ∧ t.wire = s.wire ∧
      sameTransport s t)) ∧
  ∀ (i j : Instr) (a b : BlockUnit) (s t : State),
    unitOf i = some a → unitOf j = some b → a ≠ b → runCommands [i, j] s = .next t →
      ∃ u r₁ r₂, runCommands [j, i] s = .next u ∧ t.responses = s.responses ++ [r₁, r₂] ∧
        u = { t with responses := s.responses ++ [r₂, r₁] }

/-- R61: a command of one of the units CRC, TX and RX reads only that unit's elements: two states
that agree on the configuration and the unit's elements, and for TX on the transport, give the same
of these. `NOP`, `RESET` and `QUERY` belong to no unit and are not spoken of here. -/
def Obligations.CommandsReadOnlyTheirUnit : Prop :=
  ∀ (i : Instr) (s₁ s₂ t₁ : State), sameConfig s₁ s₂ → exec i s₁ = .next t₁ →
    (unitOf i = some .crc → sameCrcUnit s₁ s₂ →
      ∃ t₂ r, exec i s₂ = .next t₂ ∧ sameCrcUnit t₁ t₂ ∧ t₁.responses = s₁.responses ++ [r] ∧
        t₂.responses = s₂.responses ++ [r]) ∧
    (unitOf i = some .tx → sameTx s₁ s₂ → sameTransport s₁ s₂ →
      ∃ t₂ r bytes, exec i s₂ = .next t₂ ∧ sameTx t₁ t₂ ∧ sameTransport t₁ t₂ ∧
        t₁.responses = s₁.responses ++ [r] ∧ t₂.responses = s₂.responses ++ [r] ∧
        t₁.wire = s₁.wire ++ bytes ∧ t₂.wire = s₂.wire ++ bytes) ∧
    (unitOf i = some .rx → sameRx s₁ s₂ →
      ∃ t₂ r events, exec i s₂ = .next t₂ ∧ sameRx t₁ t₂ ∧
        t₁.responses = s₁.responses ++ [r] ∧ t₂.responses = s₂.responses ++ [r] ∧
        t₁.sink = s₁.sink ++ events ∧ t₂.sink = s₂.sink ++ events)

/-- R57: `QUERY`, `CRC.READ` and `NOP` have no side effect and repeat their response; a second
`CRC.INIT`, `CRC.LOAD` or `RESET` leaves the same elements and gives the same response; a second
`TX.START` is a protocol violation; and `CRC.UPDATE`, `TX.DATA`, `TX.END` and `RX.BYTE` are not
idempotent. -/
def Obligations.RepeatedCommands : Prop :=
  (∀ (i : Instr) (s : State), (i = .nop ∨ i = .crcRead ∨ ∃ sel, i = .query sel) →
    ∃ t u r, exec i s = .next t ∧ exec i t = .next u ∧
      t = { s with responses := s.responses ++ [r] } ∧
      u = { s with responses := s.responses ++ [r, r] }) ∧
  (∀ (i : Instr) (s : State),
    (i = .crcInit ∨ (∃ v, i = .crcLoad v) ∨ ∃ mask, i = .reset mask) →
    ∃ t u r, exec i s = .next t ∧ exec i t = .next u ∧
      t.responses = s.responses ++ [r] ∧ u = { t with responses := s.responses ++ [r, r] }) ∧
  (∀ s : State, s.txState = .idle → s.answerAt 0 = .accepted →
    ∃ t u, exec .txStart s = .next t ∧ exec .txStart t = .next u ∧
      u = { t with responses := s.responses ++ [⟨.ok, 0⟩, ⟨.protocolViolation, 0⟩] }) ∧
  (∃ (s t u : State) (b : Byte), exec (.crcUpdate b) s = .next t ∧
    exec (.crcUpdate b) t = .next u ∧ u.crcAcc ≠ t.crcAcc) ∧
  (∃ (s t u : State) (b : Byte), exec (.txData b) s = .next t ∧ exec (.txData b) t = .next u ∧
    u.txCrc ≠ t.txCrc) ∧
  (∃ s t u : State, exec .txEnd s = .next t ∧ exec .txEnd t = .next u ∧
    t.responses.getLast? = some ⟨.ok, 0⟩ ∧ u.responses.getLast? = some ⟨.protocolViolation, 0⟩) ∧
  ∃ (s t u : State) (b : Byte), exec (.rxByte b) s = .next t ∧ exec (.rxByte b) t = .next u ∧
    u.rxCount ≠ t.rxCount

/-- R9, R28, R33: no step reads an output: with any earlier outputs put before those of the state,
the step is the same, with the same put before its outputs. So a status can be read back by no
command, and outputs are only added to. -/
def Obligations.OutputsAreNeverRead : Prop :=
  ∀ (s : State) (responses : List Response) (wire : List Byte) (sink : List SinkEvent),
    (∀ t, step s = .next t →
      step (s.withEarlierOutputs responses wire sink) =
        .next (t.withEarlierOutputs responses wire sink)) ∧
    ∀ r, step s = .refused r → step (s.withEarlierOutputs responses wire sink) = .refused r

/-- R29, R30, R234: no step changes the configuration; a step takes one input and leaves the others;
with nothing on the command port a step leaves the whole state as it is. That the inputs to come are
a list, and that time without one is a step, is the model's choice (log 4). -/
def Obligations.StepTakesOneInputAndKeepsTheConfiguration : Prop :=
  (∀ s t : State, step s = .next t → t.cfg = s.cfg ∧ t.inputs = s.inputs.tail) ∧
  ∀ s : State, s.cfg.wellFormed = true → s.inputs = [] → step s = .next s

/-- R30, R58: steps on the words of some commands, in order, are those commands one after another,
whatever is presented after them. -/
def Obligations.StepsRunTheCommandsInOrder : Prop :=
  ∀ (s : State) (commands : List Instr) (rest : List Input),
    s.cfg.wellFormed = true → s.inputs = commands.map (fun i => .word (encode i)) ++ rest →
      Host.Core.run Sys2Proof.core commands.length s =
        runCommands commands { s with inputs := rest }
end

