-- ==== Sys2Proof/Laws/State.lean ====
section
/-! SUPPORT. One lemma per field per update of `State`, all true by `rfl`, so that no proof unfolds
a record update. -/

namespace Sys2Proof.Machine

variable (s : State)


/-! ## setCrcAcc -/

@[simp] theorem State.setCrcAcc_cfg (v : Half) : (s.setCrcAcc v).cfg = s.cfg := rfl
@[simp] theorem State.setCrcAcc_crcAcc (v : Half) : (s.setCrcAcc v).crcAcc = v := rfl
@[simp] theorem State.setCrcAcc_txState (v : Half) : (s.setCrcAcc v).txState = s.txState := rfl
@[simp] theorem State.setCrcAcc_txCrc (v : Half) : (s.setCrcAcc v).txCrc = s.txCrc := rfl
@[simp] theorem State.setCrcAcc_rxState (v : Half) : (s.setCrcAcc v).rxState = s.rxState := rfl
@[simp] theorem State.setCrcAcc_rxCrc (v : Half) : (s.setCrcAcc v).rxCrc = s.rxCrc := rfl
@[simp] theorem State.setCrcAcc_rxCount (v : Half) : (s.setCrcAcc v).rxCount = s.rxCount := rfl
@[simp] theorem State.setCrcAcc_rxHold (v : Half) : (s.setCrcAcc v).rxHold = s.rxHold := rfl
@[simp] theorem State.setCrcAcc_inputs (v : Half) : (s.setCrcAcc v).inputs = s.inputs := rfl
@[simp] theorem State.setCrcAcc_answers (v : Half) : (s.setCrcAcc v).answers = s.answers := rfl
@[simp] theorem State.setCrcAcc_offers (v : Half) : (s.setCrcAcc v).offers = s.offers := rfl
@[simp] theorem State.setCrcAcc_responses (v : Half) :
    (s.setCrcAcc v).responses = s.responses := rfl
@[simp] theorem State.setCrcAcc_wire (v : Half) : (s.setCrcAcc v).wire = s.wire := rfl
@[simp] theorem State.setCrcAcc_sink (v : Half) : (s.setCrcAcc v).sink = s.sink := rfl

/-! ## setTxState -/

@[simp] theorem State.setTxState_cfg (v : TxState) : (s.setTxState v).cfg = s.cfg := rfl
@[simp] theorem State.setTxState_crcAcc (v : TxState) : (s.setTxState v).crcAcc = s.crcAcc := rfl
@[simp] theorem State.setTxState_txState (v : TxState) : (s.setTxState v).txState = v := rfl
@[simp] theorem State.setTxState_txCrc (v : TxState) : (s.setTxState v).txCrc = s.txCrc := rfl
@[simp] theorem State.setTxState_rxState (v : TxState) : (s.setTxState v).rxState = s.rxState := rfl
@[simp] theorem State.setTxState_rxCrc (v : TxState) : (s.setTxState v).rxCrc = s.rxCrc := rfl
@[simp] theorem State.setTxState_rxCount (v : TxState) : (s.setTxState v).rxCount = s.rxCount := rfl
@[simp] theorem State.setTxState_rxHold (v : TxState) : (s.setTxState v).rxHold = s.rxHold := rfl
@[simp] theorem State.setTxState_inputs (v : TxState) : (s.setTxState v).inputs = s.inputs := rfl
@[simp] theorem State.setTxState_answers (v : TxState) : (s.setTxState v).answers = s.answers := rfl
@[simp] theorem State.setTxState_offers (v : TxState) : (s.setTxState v).offers = s.offers := rfl
@[simp] theorem State.setTxState_responses (v : TxState) :
    (s.setTxState v).responses = s.responses := rfl
@[simp] theorem State.setTxState_wire (v : TxState) : (s.setTxState v).wire = s.wire := rfl
@[simp] theorem State.setTxState_sink (v : TxState) : (s.setTxState v).sink = s.sink := rfl

/-! ## setTxCrc -/

@[simp] theorem State.setTxCrc_cfg (v : Half) : (s.setTxCrc v).cfg = s.cfg := rfl
@[simp] theorem State.setTxCrc_crcAcc (v : Half) : (s.setTxCrc v).crcAcc = s.crcAcc := rfl
@[simp] theorem State.setTxCrc_txState (v : Half) : (s.setTxCrc v).txState = s.txState := rfl
@[simp] theorem State.setTxCrc_txCrc (v : Half) : (s.setTxCrc v).txCrc = v := rfl
@[simp] theorem State.setTxCrc_rxState (v : Half) : (s.setTxCrc v).rxState = s.rxState := rfl
@[simp] theorem State.setTxCrc_rxCrc (v : Half) : (s.setTxCrc v).rxCrc = s.rxCrc := rfl
@[simp] theorem State.setTxCrc_rxCount (v : Half) : (s.setTxCrc v).rxCount = s.rxCount := rfl
@[simp] theorem State.setTxCrc_rxHold (v : Half) : (s.setTxCrc v).rxHold = s.rxHold := rfl
@[simp] theorem State.setTxCrc_inputs (v : Half) : (s.setTxCrc v).inputs = s.inputs := rfl
@[simp] theorem State.setTxCrc_answers (v : Half) : (s.setTxCrc v).answers = s.answers := rfl
@[simp] theorem State.setTxCrc_offers (v : Half) : (s.setTxCrc v).offers = s.offers := rfl
@[simp] theorem State.setTxCrc_responses (v : Half) : (s.setTxCrc v).responses = s.responses := rfl
@[simp] theorem State.setTxCrc_wire (v : Half) : (s.setTxCrc v).wire = s.wire := rfl
@[simp] theorem State.setTxCrc_sink (v : Half) : (s.setTxCrc v).sink = s.sink := rfl

/-! ## setRxState -/

@[simp] theorem State.setRxState_cfg (v : RxState) : (s.setRxState v).cfg = s.cfg := rfl
@[simp] theorem State.setRxState_crcAcc (v : RxState) : (s.setRxState v).crcAcc = s.crcAcc := rfl
@[simp] theorem State.setRxState_txState (v : RxState) : (s.setRxState v).txState = s.txState := rfl
@[simp] theorem State.setRxState_txCrc (v : RxState) : (s.setRxState v).txCrc = s.txCrc := rfl
@[simp] theorem State.setRxState_rxState (v : RxState) : (s.setRxState v).rxState = v := rfl
@[simp] theorem State.setRxState_rxCrc (v : RxState) : (s.setRxState v).rxCrc = s.rxCrc := rfl
@[simp] theorem State.setRxState_rxCount (v : RxState) : (s.setRxState v).rxCount = s.rxCount := rfl
@[simp] theorem State.setRxState_rxHold (v : RxState) : (s.setRxState v).rxHold = s.rxHold := rfl
@[simp] theorem State.setRxState_inputs (v : RxState) : (s.setRxState v).inputs = s.inputs := rfl
@[simp] theorem State.setRxState_answers (v : RxState) : (s.setRxState v).answers = s.answers := rfl
@[simp] theorem State.setRxState_offers (v : RxState) : (s.setRxState v).offers = s.offers := rfl
@[simp] theorem State.setRxState_responses (v : RxState) :
    (s.setRxState v).responses = s.responses := rfl
@[simp] theorem State.setRxState_wire (v : RxState) : (s.setRxState v).wire = s.wire := rfl
@[simp] theorem State.setRxState_sink (v : RxState) : (s.setRxState v).sink = s.sink := rfl

/-! ## setRxCrc -/

@[simp] theorem State.setRxCrc_cfg (v : Half) : (s.setRxCrc v).cfg = s.cfg := rfl
@[simp] theorem State.setRxCrc_crcAcc (v : Half) : (s.setRxCrc v).crcAcc = s.crcAcc := rfl
@[simp] theorem State.setRxCrc_txState (v : Half) : (s.setRxCrc v).txState = s.txState := rfl
@[simp] theorem State.setRxCrc_txCrc (v : Half) : (s.setRxCrc v).txCrc = s.txCrc := rfl
@[simp] theorem State.setRxCrc_rxState (v : Half) : (s.setRxCrc v).rxState = s.rxState := rfl
@[simp] theorem State.setRxCrc_rxCrc (v : Half) : (s.setRxCrc v).rxCrc = v := rfl
@[simp] theorem State.setRxCrc_rxCount (v : Half) : (s.setRxCrc v).rxCount = s.rxCount := rfl
@[simp] theorem State.setRxCrc_rxHold (v : Half) : (s.setRxCrc v).rxHold = s.rxHold := rfl
@[simp] theorem State.setRxCrc_inputs (v : Half) : (s.setRxCrc v).inputs = s.inputs := rfl
@[simp] theorem State.setRxCrc_answers (v : Half) : (s.setRxCrc v).answers = s.answers := rfl
@[simp] theorem State.setRxCrc_offers (v : Half) : (s.setRxCrc v).offers = s.offers := rfl
@[simp] theorem State.setRxCrc_responses (v : Half) : (s.setRxCrc v).responses = s.responses := rfl
@[simp] theorem State.setRxCrc_wire (v : Half) : (s.setRxCrc v).wire = s.wire := rfl
@[simp] theorem State.setRxCrc_sink (v : Half) : (s.setRxCrc v).sink = s.sink := rfl

/-! ## setRxCount -/

@[simp] theorem State.setRxCount_cfg (v : Nat) : (s.setRxCount v).cfg = s.cfg := rfl
@[simp] theorem State.setRxCount_crcAcc (v : Nat) : (s.setRxCount v).crcAcc = s.crcAcc := rfl
@[simp] theorem State.setRxCount_txState (v : Nat) : (s.setRxCount v).txState = s.txState := rfl
@[simp] theorem State.setRxCount_txCrc (v : Nat) : (s.setRxCount v).txCrc = s.txCrc := rfl
@[simp] theorem State.setRxCount_rxState (v : Nat) : (s.setRxCount v).rxState = s.rxState := rfl
@[simp] theorem State.setRxCount_rxCrc (v : Nat) : (s.setRxCount v).rxCrc = s.rxCrc := rfl
@[simp] theorem State.setRxCount_rxCount (v : Nat) : (s.setRxCount v).rxCount = v := rfl
@[simp] theorem State.setRxCount_rxHold (v : Nat) : (s.setRxCount v).rxHold = s.rxHold := rfl
@[simp] theorem State.setRxCount_inputs (v : Nat) : (s.setRxCount v).inputs = s.inputs := rfl
@[simp] theorem State.setRxCount_answers (v : Nat) : (s.setRxCount v).answers = s.answers := rfl
@[simp] theorem State.setRxCount_offers (v : Nat) : (s.setRxCount v).offers = s.offers := rfl
@[simp] theorem State.setRxCount_responses (v : Nat) :
    (s.setRxCount v).responses = s.responses := rfl
@[simp] theorem State.setRxCount_wire (v : Nat) : (s.setRxCount v).wire = s.wire := rfl
@[simp] theorem State.setRxCount_sink (v : Nat) : (s.setRxCount v).sink = s.sink := rfl

/-! ## setRxHold -/

@[simp] theorem State.setRxHold_cfg (v : List Byte) : (s.setRxHold v).cfg = s.cfg := rfl
@[simp] theorem State.setRxHold_crcAcc (v : List Byte) : (s.setRxHold v).crcAcc = s.crcAcc := rfl
@[simp] theorem State.setRxHold_txState (v : List Byte) : (s.setRxHold v).txState = s.txState := rfl
@[simp] theorem State.setRxHold_txCrc (v : List Byte) : (s.setRxHold v).txCrc = s.txCrc := rfl
@[simp] theorem State.setRxHold_rxState (v : List Byte) : (s.setRxHold v).rxState = s.rxState := rfl
@[simp] theorem State.setRxHold_rxCrc (v : List Byte) : (s.setRxHold v).rxCrc = s.rxCrc := rfl
@[simp] theorem State.setRxHold_rxCount (v : List Byte) : (s.setRxHold v).rxCount = s.rxCount := rfl
@[simp] theorem State.setRxHold_rxHold (v : List Byte) : (s.setRxHold v).rxHold = v := rfl
@[simp] theorem State.setRxHold_inputs (v : List Byte) : (s.setRxHold v).inputs = s.inputs := rfl
@[simp] theorem State.setRxHold_answers (v : List Byte) : (s.setRxHold v).answers = s.answers := rfl
@[simp] theorem State.setRxHold_offers (v : List Byte) : (s.setRxHold v).offers = s.offers := rfl
@[simp] theorem State.setRxHold_responses (v : List Byte) :
    (s.setRxHold v).responses = s.responses := rfl
@[simp] theorem State.setRxHold_wire (v : List Byte) : (s.setRxHold v).wire = s.wire := rfl
@[simp] theorem State.setRxHold_sink (v : List Byte) : (s.setRxHold v).sink = s.sink := rfl

/-! ## respond -/

@[simp] theorem State.respond_cfg (st : Status) (d : Half) : (s.respond st d).cfg = s.cfg := rfl
@[simp] theorem State.respond_crcAcc (st : Status) (d : Half) :
    (s.respond st d).crcAcc = s.crcAcc := rfl
@[simp] theorem State.respond_txState (st : Status) (d : Half) :
    (s.respond st d).txState = s.txState := rfl
@[simp] theorem State.respond_txCrc (st : Status) (d : Half) :
    (s.respond st d).txCrc = s.txCrc := rfl
@[simp] theorem State.respond_rxState (st : Status) (d : Half) :
    (s.respond st d).rxState = s.rxState := rfl
@[simp] theorem State.respond_rxCrc (st : Status) (d : Half) :
    (s.respond st d).rxCrc = s.rxCrc := rfl
@[simp] theorem State.respond_rxCount (st : Status) (d : Half) :
    (s.respond st d).rxCount = s.rxCount := rfl
@[simp] theorem State.respond_rxHold (st : Status) (d : Half) :
    (s.respond st d).rxHold = s.rxHold := rfl
@[simp] theorem State.respond_inputs (st : Status) (d : Half) :
    (s.respond st d).inputs = s.inputs := rfl
@[simp] theorem State.respond_answers (st : Status) (d : Half) :
    (s.respond st d).answers = s.answers := rfl
@[simp] theorem State.respond_offers (st : Status) (d : Half) :
    (s.respond st d).offers = s.offers := rfl
@[simp] theorem State.respond_responses (st : Status) (d : Half) :
    (s.respond st d).responses = s.responses ++ [⟨st, d⟩] := rfl
@[simp] theorem State.respond_wire (st : Status) (d : Half) : (s.respond st d).wire = s.wire := rfl
@[simp] theorem State.respond_sink (st : Status) (d : Half) : (s.respond st d).sink = s.sink := rfl

/-! ## sinkWrite -/

@[simp] theorem State.sinkWrite_cfg (b : Byte) : (s.sinkWrite b).cfg = s.cfg := rfl
@[simp] theorem State.sinkWrite_crcAcc (b : Byte) : (s.sinkWrite b).crcAcc = s.crcAcc := rfl
@[simp] theorem State.sinkWrite_txState (b : Byte) : (s.sinkWrite b).txState = s.txState := rfl
@[simp] theorem State.sinkWrite_txCrc (b : Byte) : (s.sinkWrite b).txCrc = s.txCrc := rfl
@[simp] theorem State.sinkWrite_rxState (b : Byte) : (s.sinkWrite b).rxState = s.rxState := rfl
@[simp] theorem State.sinkWrite_rxCrc (b : Byte) : (s.sinkWrite b).rxCrc = s.rxCrc := rfl
@[simp] theorem State.sinkWrite_rxCount (b : Byte) : (s.sinkWrite b).rxCount = s.rxCount := rfl
@[simp] theorem State.sinkWrite_rxHold (b : Byte) : (s.sinkWrite b).rxHold = s.rxHold := rfl
@[simp] theorem State.sinkWrite_inputs (b : Byte) : (s.sinkWrite b).inputs = s.inputs := rfl
@[simp] theorem State.sinkWrite_answers (b : Byte) : (s.sinkWrite b).answers = s.answers := rfl
@[simp] theorem State.sinkWrite_offers (b : Byte) : (s.sinkWrite b).offers = s.offers := rfl
@[simp] theorem State.sinkWrite_responses (b : Byte) :
    (s.sinkWrite b).responses = s.responses := rfl
@[simp] theorem State.sinkWrite_wire (b : Byte) : (s.sinkWrite b).wire = s.wire := rfl
@[simp] theorem State.sinkWrite_sink (b : Byte) : (s.sinkWrite b).sink = s.sink ++ [.write b] := rfl

/-! ## sinkDone -/

@[simp] theorem State.sinkDone_cfg (v : Bool) (r : Reason) : (s.sinkDone v r).cfg = s.cfg := rfl
@[simp] theorem State.sinkDone_crcAcc (v : Bool) (r : Reason) :
    (s.sinkDone v r).crcAcc = s.crcAcc := rfl
@[simp] theorem State.sinkDone_txState (v : Bool) (r : Reason) :
    (s.sinkDone v r).txState = s.txState := rfl
@[simp] theorem State.sinkDone_txCrc (v : Bool) (r : Reason) :
    (s.sinkDone v r).txCrc = s.txCrc := rfl
@[simp] theorem State.sinkDone_rxState (v : Bool) (r : Reason) :
    (s.sinkDone v r).rxState = s.rxState := rfl
@[simp] theorem State.sinkDone_rxCrc (v : Bool) (r : Reason) :
    (s.sinkDone v r).rxCrc = s.rxCrc := rfl
@[simp] theorem State.sinkDone_rxCount (v : Bool) (r : Reason) :
    (s.sinkDone v r).rxCount = s.rxCount := rfl
@[simp] theorem State.sinkDone_rxHold (v : Bool) (r : Reason) :
    (s.sinkDone v r).rxHold = s.rxHold := rfl
@[simp] theorem State.sinkDone_inputs (v : Bool) (r : Reason) :
    (s.sinkDone v r).inputs = s.inputs := rfl
@[simp] theorem State.sinkDone_answers (v : Bool) (r : Reason) :
    (s.sinkDone v r).answers = s.answers := rfl
@[simp] theorem State.sinkDone_offers (v : Bool) (r : Reason) :
    (s.sinkDone v r).offers = s.offers := rfl
@[simp] theorem State.sinkDone_responses (v : Bool) (r : Reason) :
    (s.sinkDone v r).responses = s.responses := rfl
@[simp] theorem State.sinkDone_wire (v : Bool) (r : Reason) : (s.sinkDone v r).wire = s.wire := rfl
@[simp] theorem State.sinkDone_sink (v : Bool) (r : Reason) :
    (s.sinkDone v r).sink = s.sink ++ [.done v r] := rfl

/-! ## frameClear -/

@[simp] theorem State.frameClear_cfg : (s.frameClear).cfg = s.cfg := rfl
@[simp] theorem State.frameClear_crcAcc : (s.frameClear).crcAcc = s.crcAcc := rfl
@[simp] theorem State.frameClear_txState : (s.frameClear).txState = s.txState := rfl
@[simp] theorem State.frameClear_txCrc : (s.frameClear).txCrc = s.txCrc := rfl
@[simp] theorem State.frameClear_rxState : (s.frameClear).rxState = s.rxState := rfl
@[simp] theorem State.frameClear_rxCrc : (s.frameClear).rxCrc = s.cfg.seed := rfl
@[simp] theorem State.frameClear_rxCount : (s.frameClear).rxCount = 0 := rfl
@[simp] theorem State.frameClear_rxHold : (s.frameClear).rxHold = [] := rfl
@[simp] theorem State.frameClear_inputs : (s.frameClear).inputs = s.inputs := rfl
@[simp] theorem State.frameClear_answers : (s.frameClear).answers = s.answers := rfl
@[simp] theorem State.frameClear_offers : (s.frameClear).offers = s.offers := rfl
@[simp] theorem State.frameClear_responses : (s.frameClear).responses = s.responses := rfl
@[simp] theorem State.frameClear_wire : (s.frameClear).wire = s.wire := rfl
@[simp] theorem State.frameClear_sink : (s.frameClear).sink = s.sink := rfl

/-! ## openFrame -/

@[simp] theorem State.openFrame_cfg : (s.openFrame).cfg = s.cfg := rfl
@[simp] theorem State.openFrame_crcAcc : (s.openFrame).crcAcc = s.crcAcc := rfl
@[simp] theorem State.openFrame_txState : (s.openFrame).txState = s.txState := rfl
@[simp] theorem State.openFrame_txCrc : (s.openFrame).txCrc = s.txCrc := rfl
@[simp] theorem State.openFrame_rxState : (s.openFrame).rxState = .data := rfl
@[simp] theorem State.openFrame_rxCrc : (s.openFrame).rxCrc = s.cfg.seed := rfl
@[simp] theorem State.openFrame_rxCount : (s.openFrame).rxCount = 0 := rfl
@[simp] theorem State.openFrame_rxHold : (s.openFrame).rxHold = [] := rfl
@[simp] theorem State.openFrame_inputs : (s.openFrame).inputs = s.inputs := rfl
@[simp] theorem State.openFrame_answers : (s.openFrame).answers = s.answers := rfl
@[simp] theorem State.openFrame_offers : (s.openFrame).offers = s.offers := rfl
@[simp] theorem State.openFrame_responses : (s.openFrame).responses = s.responses := rfl
@[simp] theorem State.openFrame_wire : (s.openFrame).wire = s.wire := rfl
@[simp] theorem State.openFrame_sink : (s.openFrame).sink = s.sink := rfl

/-! ## resetCrc -/

@[simp] theorem State.resetCrc_cfg : (s.resetCrc).cfg = s.cfg := rfl
@[simp] theorem State.resetCrc_crcAcc : (s.resetCrc).crcAcc = s.cfg.seed := rfl
@[simp] theorem State.resetCrc_txState : (s.resetCrc).txState = s.txState := rfl
@[simp] theorem State.resetCrc_txCrc : (s.resetCrc).txCrc = s.txCrc := rfl
@[simp] theorem State.resetCrc_rxState : (s.resetCrc).rxState = s.rxState := rfl
@[simp] theorem State.resetCrc_rxCrc : (s.resetCrc).rxCrc = s.rxCrc := rfl
@[simp] theorem State.resetCrc_rxCount : (s.resetCrc).rxCount = s.rxCount := rfl
@[simp] theorem State.resetCrc_rxHold : (s.resetCrc).rxHold = s.rxHold := rfl
@[simp] theorem State.resetCrc_inputs : (s.resetCrc).inputs = s.inputs := rfl
@[simp] theorem State.resetCrc_answers : (s.resetCrc).answers = s.answers := rfl
@[simp] theorem State.resetCrc_offers : (s.resetCrc).offers = s.offers := rfl
@[simp] theorem State.resetCrc_responses : (s.resetCrc).responses = s.responses := rfl
@[simp] theorem State.resetCrc_wire : (s.resetCrc).wire = s.wire := rfl
@[simp] theorem State.resetCrc_sink : (s.resetCrc).sink = s.sink := rfl

/-! ## resetTx -/

@[simp] theorem State.resetTx_cfg : (s.resetTx).cfg = s.cfg := rfl
@[simp] theorem State.resetTx_crcAcc : (s.resetTx).crcAcc = s.crcAcc := rfl
@[simp] theorem State.resetTx_txState : (s.resetTx).txState = .idle := rfl
@[simp] theorem State.resetTx_txCrc : (s.resetTx).txCrc = s.cfg.seed := rfl
@[simp] theorem State.resetTx_rxState : (s.resetTx).rxState = s.rxState := rfl
@[simp] theorem State.resetTx_rxCrc : (s.resetTx).rxCrc = s.rxCrc := rfl
@[simp] theorem State.resetTx_rxCount : (s.resetTx).rxCount = s.rxCount := rfl
@[simp] theorem State.resetTx_rxHold : (s.resetTx).rxHold = s.rxHold := rfl
@[simp] theorem State.resetTx_inputs : (s.resetTx).inputs = s.inputs := rfl
@[simp] theorem State.resetTx_answers : (s.resetTx).answers = s.answers := rfl
@[simp] theorem State.resetTx_offers : (s.resetTx).offers = s.offers := rfl
@[simp] theorem State.resetTx_responses : (s.resetTx).responses = s.responses := rfl
@[simp] theorem State.resetTx_wire : (s.resetTx).wire = s.wire := rfl
@[simp] theorem State.resetTx_sink : (s.resetTx).sink = s.sink := rfl

/-! ## resetRx -/

@[simp] theorem State.resetRx_cfg : (s.resetRx).cfg = s.cfg := rfl
@[simp] theorem State.resetRx_crcAcc : (s.resetRx).crcAcc = s.crcAcc := rfl
@[simp] theorem State.resetRx_txState : (s.resetRx).txState = s.txState := rfl
@[simp] theorem State.resetRx_txCrc : (s.resetRx).txCrc = s.txCrc := rfl
@[simp] theorem State.resetRx_rxState : (s.resetRx).rxState = .hunt := rfl
@[simp] theorem State.resetRx_rxCrc : (s.resetRx).rxCrc = s.cfg.seed := rfl
@[simp] theorem State.resetRx_rxCount : (s.resetRx).rxCount = 0 := rfl
@[simp] theorem State.resetRx_rxHold : (s.resetRx).rxHold = [] := rfl
@[simp] theorem State.resetRx_inputs : (s.resetRx).inputs = s.inputs := rfl
@[simp] theorem State.resetRx_answers : (s.resetRx).answers = s.answers := rfl
@[simp] theorem State.resetRx_offers : (s.resetRx).offers = s.offers := rfl
@[simp] theorem State.resetRx_responses : (s.resetRx).responses = s.responses := rfl
@[simp] theorem State.resetRx_wire : (s.resetRx).wire = s.wire := rfl
@[simp] theorem State.resetRx_sink : (s.resetRx).sink = s.sink := rfl

/-! ## powerOn -/

@[simp] theorem State.powerOn_cfg : (s.powerOn).cfg = s.cfg := rfl
@[simp] theorem State.powerOn_crcAcc : (s.powerOn).crcAcc = s.cfg.seed := rfl
@[simp] theorem State.powerOn_txState : (s.powerOn).txState = .idle := rfl
@[simp] theorem State.powerOn_txCrc : (s.powerOn).txCrc = s.cfg.seed := rfl
@[simp] theorem State.powerOn_rxState : (s.powerOn).rxState = .hunt := rfl
@[simp] theorem State.powerOn_rxCrc : (s.powerOn).rxCrc = s.cfg.seed := rfl
@[simp] theorem State.powerOn_rxCount : (s.powerOn).rxCount = 0 := rfl
@[simp] theorem State.powerOn_rxHold : (s.powerOn).rxHold = [] := rfl
@[simp] theorem State.powerOn_inputs : (s.powerOn).inputs = s.inputs := rfl
@[simp] theorem State.powerOn_answers : (s.powerOn).answers = s.answers := rfl
@[simp] theorem State.powerOn_offers : (s.powerOn).offers = s.offers := rfl
@[simp] theorem State.powerOn_responses : (s.powerOn).responses = s.responses := rfl
@[simp] theorem State.powerOn_wire : (s.powerOn).wire = s.wire := rfl
@[simp] theorem State.powerOn_sink : (s.powerOn).sink = s.sink := rfl

/-! ## rejectWord -/

@[simp] theorem State.rejectWord_cfg : (s.rejectWord).cfg = s.cfg := rfl
@[simp] theorem State.rejectWord_crcAcc : (s.rejectWord).crcAcc = s.crcAcc := rfl
@[simp] theorem State.rejectWord_txState : (s.rejectWord).txState = s.txState := rfl
@[simp] theorem State.rejectWord_txCrc : (s.rejectWord).txCrc = s.txCrc := rfl
@[simp] theorem State.rejectWord_rxState : (s.rejectWord).rxState = s.rxState := rfl
@[simp] theorem State.rejectWord_rxCrc : (s.rejectWord).rxCrc = s.rxCrc := rfl
@[simp] theorem State.rejectWord_rxCount : (s.rejectWord).rxCount = s.rxCount := rfl
@[simp] theorem State.rejectWord_rxHold : (s.rejectWord).rxHold = s.rxHold := rfl
@[simp] theorem State.rejectWord_inputs : (s.rejectWord).inputs = s.inputs := rfl
@[simp] theorem State.rejectWord_answers : (s.rejectWord).answers = s.answers := rfl
@[simp] theorem State.rejectWord_offers : (s.rejectWord).offers = s.offers := rfl
@[simp] theorem State.rejectWord_responses :
    (s.rejectWord).responses = s.responses ++ [⟨.illegalCommand, 0⟩] := rfl
@[simp] theorem State.rejectWord_wire : (s.rejectWord).wire = s.wire := rfl
@[simp] theorem State.rejectWord_sink : (s.rejectWord).sink = s.sink := rfl

/-! ## presentWord -/

@[simp] theorem State.presentWord_cfg (w : Word) : (s.presentWord w).cfg = s.cfg := rfl
@[simp] theorem State.presentWord_crcAcc (w : Word) : (s.presentWord w).crcAcc = s.crcAcc := rfl
@[simp] theorem State.presentWord_txState (w : Word) : (s.presentWord w).txState = s.txState := rfl
@[simp] theorem State.presentWord_txCrc (w : Word) : (s.presentWord w).txCrc = s.txCrc := rfl
@[simp] theorem State.presentWord_rxState (w : Word) : (s.presentWord w).rxState = s.rxState := rfl
@[simp] theorem State.presentWord_rxCrc (w : Word) : (s.presentWord w).rxCrc = s.rxCrc := rfl
@[simp] theorem State.presentWord_rxCount (w : Word) : (s.presentWord w).rxCount = s.rxCount := rfl
@[simp] theorem State.presentWord_rxHold (w : Word) : (s.presentWord w).rxHold = s.rxHold := rfl
@[simp] theorem State.presentWord_inputs (w : Word) :
    (s.presentWord w).inputs = .word w :: s.inputs := rfl
@[simp] theorem State.presentWord_answers (w : Word) : (s.presentWord w).answers = s.answers := rfl
@[simp] theorem State.presentWord_offers (w : Word) : (s.presentWord w).offers = s.offers := rfl
@[simp] theorem State.presentWord_responses (w : Word) :
    (s.presentWord w).responses = s.responses := rfl
@[simp] theorem State.presentWord_wire (w : Word) : (s.presentWord w).wire = s.wire := rfl
@[simp] theorem State.presentWord_sink (w : Word) : (s.presentWord w).sink = s.sink := rfl

/-! ## afterOffer -/

@[simp] theorem State.afterOffer_cfg (b : Byte) : (s.afterOffer b).cfg = s.cfg := rfl
@[simp] theorem State.afterOffer_crcAcc (b : Byte) : (s.afterOffer b).crcAcc = s.crcAcc := rfl
@[simp] theorem State.afterOffer_txState (b : Byte) : (s.afterOffer b).txState = s.txState := rfl
@[simp] theorem State.afterOffer_txCrc (b : Byte) : (s.afterOffer b).txCrc = s.txCrc := rfl
@[simp] theorem State.afterOffer_rxState (b : Byte) : (s.afterOffer b).rxState = s.rxState := rfl
@[simp] theorem State.afterOffer_rxCrc (b : Byte) : (s.afterOffer b).rxCrc = s.rxCrc := rfl
@[simp] theorem State.afterOffer_rxCount (b : Byte) : (s.afterOffer b).rxCount = s.rxCount := rfl
@[simp] theorem State.afterOffer_rxHold (b : Byte) : (s.afterOffer b).rxHold = s.rxHold := rfl
@[simp] theorem State.afterOffer_inputs (b : Byte) : (s.afterOffer b).inputs = s.inputs := rfl
@[simp] theorem State.afterOffer_answers (b : Byte) :
    (s.afterOffer b).answers = s.answers.tail := rfl
@[simp] theorem State.afterOffer_offers (b : Byte) : (s.afterOffer b).offers = s.offers + 1 := rfl
@[simp] theorem State.afterOffer_responses (b : Byte) :
    (s.afterOffer b).responses = s.responses := rfl
@[simp] theorem State.afterOffer_sink (b : Byte) : (s.afterOffer b).sink = s.sink := rfl

theorem State.afterOffer_wire_accepted (b : Byte) (h : s.answerAt 0 = .accepted) :
    (s.afterOffer b).wire = s.wire ++ [b] := by simp [State.afterOffer, h]

theorem State.afterOffer_wire_failed (b : Byte) (h : s.answerAt 0 = .failed) :
    (s.afterOffer b).wire = s.wire := by simp [State.afterOffer, h]

/-- The answers seen after one offer are the later ones seen before it. -/
@[simp] theorem State.answerAt_afterOffer (b : Byte) (k : Nat) :
    (s.afterOffer b).answerAt k = s.answerAt (k + 1) := by
  simp [State.answerAt, Nat.add_assoc, Nat.add_comm 1 k]


/-! ## resetWith -/

@[simp] theorem State.resetWith_cfg (p : Params) : (State.resetWith p).cfg = p := rfl
@[simp] theorem State.resetWith_crcAcc (p : Params) : (State.resetWith p).crcAcc = p.seed := rfl
@[simp] theorem State.resetWith_txState (p : Params) : (State.resetWith p).txState = .idle := rfl
@[simp] theorem State.resetWith_txCrc (p : Params) : (State.resetWith p).txCrc = p.seed := rfl
@[simp] theorem State.resetWith_rxState (p : Params) : (State.resetWith p).rxState = .hunt := rfl
@[simp] theorem State.resetWith_rxCrc (p : Params) : (State.resetWith p).rxCrc = p.seed := rfl
@[simp] theorem State.resetWith_rxCount (p : Params) : (State.resetWith p).rxCount = 0 := rfl
@[simp] theorem State.resetWith_rxHold (p : Params) : (State.resetWith p).rxHold = [] := rfl
@[simp] theorem State.resetWith_inputs (p : Params) : (State.resetWith p).inputs = [] := rfl
@[simp] theorem State.resetWith_answers (p : Params) : (State.resetWith p).answers = [] := rfl
@[simp] theorem State.resetWith_offers (p : Params) : (State.resetWith p).offers = 0 := rfl
@[simp] theorem State.resetWith_responses (p : Params) : (State.resetWith p).responses = [] := rfl
@[simp] theorem State.resetWith_wire (p : Params) : (State.resetWith p).wire = [] := rfl
@[simp] theorem State.resetWith_sink (p : Params) : (State.resetWith p).sink = [] := rfl

end Sys2Proof.Machine
end

