-- ==== Sys2Proof/Laws/Ops.lean ====
section
/-! SUPPORT. One lemma per shared operation that says everything the operation can do; proofs cite
these instead of unfolding the operations. -/

namespace Sys2Proof.Machine

/-! ## CRC (R100, R101) -/

@[simp] theorem crcFold_nil (poly c : Half) : crcFold poly c [] = c := rfl

@[simp] theorem crcFold_cons (poly c : Half) (b : Byte) (rest : List Byte) :
    crcFold poly c (b :: rest) = crcFold poly (crcStep poly c b) rest := rfl

@[simp] theorem crcShifts_zero (poly c : Half) : crcShifts poly 0 c = c := rfl

@[simp] theorem crcShifts_succ (poly c : Half) (n : Nat) :
    crcShifts poly (n + 1) c = crcShifts poly n (crcShift poly c) := rfl

/-- The two bytes of a CRC read back give it, in either order (R52). -/
@[simp] theorem joinCrc_splitCrc (order : CrcOrder) (v : Half) :
    joinCrc order (splitCrc order v).1 (splitCrc order v).2 = v := by
  have whole : (v.extractLsb' 8 8 ++ v.extractLsb' 0 8 : Half) = v := by
    have h := BitVec.extractLsb'_append_extractLsb'_eq_extractLsb' (x := v)
      (start₁ := 0) (len₁ := 8) (start₂ := 8) (len₂ := 8) (by decide)
    exact h.trans (BitVec.extractLsb'_eq_self (x := v))
  cases order <;> exact whole

/-! ## Emission (R130, R131) -/

@[simp] theorem escapeAll_nil (p : Params) : escapeAll p [] = [] := rfl

@[simp] theorem escapeAll_cons (p : Params) (b : Byte) (rest : List Byte) :
    escapeAll p (b :: rest) = escape p b ++ escapeAll p rest := rfl

/-- R130: a byte is reserved exactly if it is `FLAG`, `ESC` or in `EXTRA`. -/
theorem reserved_iff (p : Params) (b : Byte) :
    p.reserved b = true ↔ b = p.flag ∨ b = p.esc ∨ b ∈ p.extra := by
  simp [Params.reserved, Params.reservedBytes]

/-- An offered byte that is accepted. -/
theorem afterOffer_accepted (s : State) (b : Byte) (h : s.answerAt 0 = .accepted) :
    s.afterOffer b = s.afterAccepted [b] := by
  simp [State.afterOffer, State.afterAccepted, h]

/-- An offered byte that is refused. -/
theorem afterOffer_failed (s : State) (b : Byte) (h : s.answerAt 0 = .failed) :
    s.afterOffer b = s.afterRefused [b] 0 := by
  simp [State.afterOffer, State.afterRefused, h]

/-- `EmitAll` where every byte is accepted. -/
theorem emitAll_accepted (bytes : List Byte) (s : State) (h : s.acceptsNext bytes.length) :
    emitAll bytes s = (.accepted, s.afterAccepted bytes) := by
  induction bytes generalizing s with
  | nil => simp [emitAll, State.afterAccepted]
  | cons b rest ih =>
    have first : s.answerAt 0 = .accepted := h 0 (by simp)
    have later : (s.afterOffer b).acceptsNext rest.length := fun k hk => by
      simpa using h (k + 1) (by simpa using hk)
    have step : emitAll (b :: rest) s = emitAll rest (s.afterOffer b) := by simp [emitAll, first]
    rw [step, ih _ later, afterOffer_accepted s b first]
    simp [State.afterAccepted, Nat.add_assoc, Nat.add_comm 1]

/-- `EmitAll` where byte number `k` is the first to be refused. -/
theorem emitAll_refused (bytes : List Byte) (s : State) (k : Nat)
    (h : s.refusesAt bytes.length k) : emitAll bytes s = (.failed, s.afterRefused bytes k) := by
  induction bytes generalizing s k with
  | nil => exact absurd h.1 (by simp)
  | cons b rest ih =>
    obtain ⟨hk, before, refused⟩ := h
    cases k with
    | zero => simp [emitAll, refused, afterOffer_failed s b refused, State.afterRefused]
    | succ k =>
      have first : s.answerAt 0 = .accepted := before 0 (by simp)
      have later : (s.afterOffer b).refusesAt rest.length k :=
        ⟨by simpa using hk, fun j hj => by simpa using before (j + 1) (by omega),
          by simpa using refused⟩
      have step : emitAll (b :: rest) s = emitAll rest (s.afterOffer b) := by simp [emitAll, first]
      rw [step, ih _ _ later, afterOffer_accepted s b first]
      simp [State.afterAccepted, State.afterRefused, Nat.add_assoc, Nat.add_comm 1]

/-- Either all of the next offers are accepted or one is the first to be refused. -/
theorem accepts_or_refuses (s : State) (n : Nat) :
    s.acceptsNext n ∨ ∃ k, s.refusesAt n k := by
  induction n with
  | zero => exact .inl fun k hk => absurd hk (by simp)
  | succ n ih =>
    rcases ih with all | ⟨k, hk, before, refused⟩
    · cases hn : s.answerAt n with
      | accepted =>
        refine .inl fun k hk => ?_
        rcases Nat.lt_succ_iff_lt_or_eq.mp hk with lt | rfl
        · exact all k lt
        · exact hn
      | failed => exact .inr ⟨n, by simp, all, hn⟩
    · exact .inr ⟨k, by omega, before, refused⟩

/-- Everything the end of a TX command can do (R131): all bytes go out and the response is `OK`, or
the first refused byte abandons the frame. -/
theorem sendAndRespond_cases (s : State) (bytes : List Byte) :
    (s.acceptsNext bytes.length ∧
        s.sendAndRespond bytes = (s.afterAccepted bytes).respond .ok 0) ∨
      ∃ k, s.refusesAt bytes.length k ∧
        s.sendAndRespond bytes =
          ((s.afterRefused bytes k).setTxState .idle).respond .transportWriteFailure 0 := by
  rcases accepts_or_refuses s bytes.length with h | ⟨k, h⟩
  · exact .inl ⟨h, by simp [State.sendAndRespond, emitAll_accepted bytes s h]⟩
  · exact .inr ⟨k, h, by simp [State.sendAndRespond, emitAll_refused bytes s k h]⟩

/-! ## The RX procedures (R162 to R167) -/

/-- Everything `ABORT` does (R162). -/
theorem abort_eq (s : State) (reason : Reason) :
    s.abort reason = { s with
      rxState := .hunt, rxCount := 0, rxHold := [], rxCrc := s.cfg.seed
      sink := s.sink ++ if 1 ≤ s.rxCount then [.done false reason] else [] } := by
  unfold State.abort
  split <;> simp [State.frameClear, State.setRxState, State.setRxCrc, State.setRxHold,
    State.setRxCount, State.sinkDone]

/-- `OPEN` of R164 and R165. -/
theorem openFrame_eq (s : State) :
    s.openFrame = { s with rxState := .data, rxCount := 0, rxHold := [], rxCrc := s.cfg.seed } := rfl

/-- Everything the holdback does with a byte (R163). -/
theorem pushHold_cases (s : State) (d : Byte) :
    (s.rxHold.length < 2 ∧ s.pushHold d = s.setRxHold (s.rxHold ++ [d])) ∨
      ∃ h next more, s.rxHold = h :: next :: more ∧
        s.pushHold d =
          ((s.sinkWrite h).setRxCrc (crcStep s.cfg.poly s.rxCrc h)).setRxHold [next, d] := by
  unfold State.pushHold
  split
  · exact .inr ⟨_, _, _, ‹_›, rfl⟩
  · rename_i hshort
    refine .inl ⟨?_, rfl⟩
    match hh : s.rxHold with
    | [] => simp
    | [_] => simp
    | a :: b :: m => exact absurd hh (hshort a b m)

/-- Everything `ACCEPT` does (R163). -/
theorem accept_cases (s : State) (d : Byte) :
    (s.rxCount = s.cfg.rxMax ∧ s.accept d = s.abort .overflow) ∨
      (s.rxCount ≠ s.cfg.rxMax ∧
        s.accept d = ((s.pushHold d).setRxCount (s.rxCount + 1)).setRxState .data) := by
  unfold State.accept
  split
  · exact .inl ⟨‹_›, rfl⟩
  · exact .inr ⟨‹_›, rfl⟩

/-- The notification of a terminator with two held bytes (R164). -/
theorem checkCrc_eq (s : State) (first second : Byte) :
    s.checkCrc first second =
      if joinCrc s.cfg.crcOrder first second = s.rxCrc then s.sinkDone true .none
      else s.sinkDone false .crcMismatch := rfl

/-- Everything `END_FRAME` does (R164). -/
theorem endFrame_cases {s t : State} (h : s.endFrame = some t) :
    (s.rxCount = 0 ∧ t = s.openFrame) ∨
      (s.rxCount = 1 ∧ t = (s.sinkDone false .runt).openFrame) ∨
        (2 ≤ s.rxCount ∧ ∃ first second more, s.rxHold = first :: second :: more ∧
          t = (s.checkCrc first second).openFrame) := by
  unfold State.endFrame at h
  split at h
  · exact .inl ⟨‹_›, by simpa using h.symm⟩
  · split at h
    · exact .inr (.inl ⟨‹_›, by simpa using h.symm⟩)
    · split at h
      · exact .inr (.inr ⟨by omega, _, _, _, ‹_›, by simpa using h.symm⟩)
      · cases h

/-- Everything a received byte can do (R165 to R168). -/
theorem receive_cases {s t : State} {b : Byte} (h : s.receive b = some t) :
    (s.rxState = .hunt ∧ t = s.huntByte b) ∨
      (s.rxState = .data ∧ b = s.cfg.flag ∧ s.endFrame = some t) ∨
      (s.rxState = .data ∧ b ≠ s.cfg.flag ∧ b = s.cfg.esc ∧ t = s.setRxState .esc) ∨
      (s.rxState = .data ∧ b ≠ s.cfg.flag ∧ b ≠ s.cfg.esc ∧ t = s.accept b) ∨
      (s.rxState = .esc ∧ pairs s.cfg b = true ∧ t = s.accept (b ^^^ s.cfg.xmask)) ∨
      (s.rxState = .esc ∧ pairs s.cfg b = false ∧ t = (s.abort .badEscape).huntByte b) := by
  unfold State.receive at h
  split at h <;> rename_i hs
  · exact .inl ⟨hs, by simpa using h.symm⟩
  · unfold State.dataByte at h
    split at h
    · exact .inr (.inl ⟨hs, ‹_›, h⟩)
    · split at h
      · exact .inr (.inr (.inl ⟨hs, ‹_›, ‹_›, by simpa using h.symm⟩))
      · exact .inr (.inr (.inr (.inl ⟨hs, ‹_›, ‹_›, by simpa using h.symm⟩)))
  · cases hp : pairs s.cfg b with
    | true =>
      exact .inr (.inr (.inr (.inr (.inl ⟨hs, rfl, by simpa [State.escByte, hp] using h.symm⟩))))
    | false =>
      exact .inr (.inr (.inr (.inr (.inr ⟨hs, rfl, by simpa [State.escByte, hp] using h.symm⟩))))

/-! ## The command port (R30) -/

/-- Taking an input changes the pending inputs alone. -/
theorem takeInput_eq_some {s t : State} {x : Input} (h : s.takeInput = some (x, t)) :
    ∃ rest, s.inputs = x :: rest ∧ t = { s with inputs := rest } := by
  unfold State.takeInput at h
  split at h
  · cases h
  · rename_i y rest hy
    cases h
    exact ⟨rest, hy, rfl⟩

/-- Everything a step can do when it gives a next state. -/
theorem step_cases {s t : State} (h : step s = .next t) :
    s.cfg.wellFormed = true ∧
      ((s.inputs = [] ∧ t = s) ∨
        ∃ rest, (s.inputs = .assertReset :: rest ∧ t = { s with inputs := rest }.powerOn) ∨
          ∃ w, s.inputs = .word w :: rest ∧
            ((∃ i, decode w = .ok i ∧ exec i { s with inputs := rest } = .next t) ∨
              ∃ e, decode w = .error e ∧ t = { s with inputs := rest }.rejectWord)) := by
  unfold step at h
  split at h
  · refine ⟨‹_›, ?_⟩
    split at h
    · rename_i hi
      cases h
      refine .inl ⟨?_, rfl⟩
      unfold State.takeInput at hi
      split at hi
      · assumption
      · cases hi
    · rename_i hi
      cases h
      obtain ⟨rest, hr, rfl⟩ := takeInput_eq_some hi
      exact .inr ⟨rest, .inl ⟨hr, rfl⟩⟩
    · rename_i w u hi
      obtain ⟨rest, hr, rfl⟩ := takeInput_eq_some hi
      refine .inr ⟨rest, .inr ⟨w, hr, ?_⟩⟩
      split at h
      · exact .inl ⟨_, ‹_›, h⟩
      · cases h
        exact .inr ⟨_, ‹_›, rfl⟩
  · cases h

end Sys2Proof.Machine
end

