-- ==== Sys2Proof/Laws/PerInstr.lean ====
section
/-! SUPPORT. The per-instruction family `SelectsItsRow`: the word of a command selects the row of
R72 that the command stands for. -/

namespace Sys2Proof.Laws

open Sys2Proof

/-- The bits of a word put together from its fields (R70). -/
theorem word_bit (c r : Byte) (d : Half) (k : Nat) :
    (c ++ r ++ d : Word).getLsbD k =
      if k < 16 then d.getLsbD k
      else if k - 16 < 8 then r.getLsbD (k - 16) else c.getLsbD (k - 16 - 8) := by
  have outer := BitVec.getLsbD_append (x := c ++ r) (y := d) (i := k)
  have inner := BitVec.getLsbD_append (x := c) (y := r) (i := k - 16)
  rw [inner] at outer
  exact outer

theorem opField_append (c r : Byte) (d : Half) : opField (c ++ r ++ d) = c := by
  ext i hi
  have h16 : ¬ 24 + i < 16 := by omega
  have h8 : ¬ 24 + i - 16 < 8 := by omega
  have h : 24 + i - 16 - 8 = i := by omega
  simp only [opField, BitVec.getElem_extractLsb', word_bit, h16, h8, h, if_false]
  exact BitVec.getLsbD_eq_getElem hi

theorem rsvField_append (c r : Byte) (d : Half) : rsvField (c ++ r ++ d) = r := by
  ext i hi
  have h16 : ¬ 16 + i < 16 := by omega
  have h : 16 + i - 16 = i := by omega
  simp only [rsvField, BitVec.getElem_extractLsb', word_bit, h16, h, hi, if_false, if_true]
  exact BitVec.getLsbD_eq_getElem hi

theorem opdField_append (c r : Byte) (d : Half) : opdField (c ++ r ++ d) = d := by
  ext i hi
  simp only [opdField, BitVec.getElem_extractLsb', word_bit, Nat.zero_add, hi, if_true]
  exact BitVec.getLsbD_eq_getElem hi

/-- A word's fields are those of R70. -/
theorem opField_encode (i : Instr) : opField (encode i) = i.opcode.code := opField_append _ _ _

theorem rsvField_encode (i : Instr) : rsvField (encode i) = 0 := rsvField_append _ _ _

theorem opdField_encode (i : Instr) : opdField (encode i) = i.operand := opdField_append _ _ _

/-- Each opcode is found by its own `OP` value (R72). -/
theorem opcodeOf_code (o : Opcode) : opcodeOf o.code = some o := by cases o <;> decide

/-- A byte operand leaves the must-be-zero bits of its form zero (R71). -/
theorem byte_operand_mustBeZero (b : Byte) : b.setWidth 16 &&& (0xFF00 : Half) = 0 := by
  have hb : b.setWidth 16 = (0#8 ++ b : Half) := by
    apply BitVec.eq_of_toNat_eq
    have h := BitVec.toNat_append 0#8 b
    have zero : (0#8).toNat <<< 8 ||| b.toNat = b.toNat := by simp
    have small := b.isLt
    exact (by simp; omega : (b.setWidth 16).toNat = b.toNat).trans (h.trans zero).symm
  have hm : (0xFF00 : Half) = (0xFF#8 ++ 0#8 : Half) := by decide
  have hand : (0#8 ++ b : Half) &&& (0xFF#8 ++ 0#8 : Half) = (0#8 &&& 0xFF#8) ++ (b &&& 0#8) :=
    BitVec.and_append
  rw [hb, hm, hand]
  simp

/-- A row whose mask is `FF FF m` masks a word field by field. -/
theorem row_mask_split (c : Byte) (d m : Half) :
    (c ++ 0#8 ++ d) &&& (0xFF#8 ++ 0xFF#8 ++ m) = c ++ 0#8 ++ (d &&& m) := by
  have ones : 0xFF#8 = BitVec.allOnes 8 := by decide
  rw [BitVec.and_append, BitVec.and_append, ones, BitVec.and_allOnes, BitVec.and_allOnes]

/-- A word selects a row whose pattern is its `OP` value alone, if its operand avoids the mask. -/
theorem selects_of_operand (name : String) (o : Opcode) (c : Byte) (d m : Half) (h : d &&& m = 0) :
    Row.selects ⟨name, o, c ++ 0#8 ++ 0#16, 0xFF#8 ++ 0xFF#8 ++ m⟩ (c ++ 0#8 ++ d) = true := by
  unfold Row.selects
  simp only [row_mask_split, h]
  simp

/-- A three-bit operand leaves the other bits zero. -/
theorem mask_operand_mustBeZero (mask : BitVec 3) : mask.setWidth 16 &&& (0xFFF8 : Half) = 0 := by
  revert mask
  decide

/-- A two-bit operand leaves the other bits zero. -/
theorem sel_operand_mustBeZero (sel : BitVec 2) : sel.setWidth 16 &&& (0xFFFC : Half) = 0 := by
  revert sel
  decide

/-- R72: some row of the table is the command's own, and its word selects it. -/
def SelectsItsRow.Statement (i : Instr) : Prop :=
  ∃ r ∈ opcodeTable, r.opcode = i.opcode ∧ r.selects (encode i) = true

theorem SelectsItsRow.nop : SelectsItsRow.Statement .nop :=
  ⟨⟨"NOP", .nop, 0x00000000, 0xFFFFFFFF⟩, by simp [opcodeTable], rfl, by decide⟩

theorem SelectsItsRow.reset (mask : BitVec 3) : SelectsItsRow.Statement (.reset mask) :=
  ⟨⟨"RESET", .reset, 0x01000000, 0xFFFFFFF8⟩, by simp [opcodeTable], rfl,
    selects_of_operand _ _ 0x01 _ 0xFFF8 (mask_operand_mustBeZero mask)⟩

theorem SelectsItsRow.query (sel : BitVec 2) : SelectsItsRow.Statement (.query sel) :=
  ⟨⟨"QUERY", .query, 0x02000000, 0xFFFFFFFC⟩, by simp [opcodeTable], rfl,
    selects_of_operand _ _ 0x02 _ 0xFFFC (sel_operand_mustBeZero sel)⟩

theorem SelectsItsRow.crcInit : SelectsItsRow.Statement .crcInit :=
  ⟨⟨"CRC.INIT", .crcInit, 0x10000000, 0xFFFFFFFF⟩, by simp [opcodeTable], rfl, by decide⟩

theorem SelectsItsRow.crcLoad (v : Half) : SelectsItsRow.Statement (.crcLoad v) :=
  ⟨⟨"CRC.LOAD", .crcLoad, 0x11000000, 0xFFFF0000⟩, by simp [opcodeTable], rfl,
    selects_of_operand _ _ 0x11 _ 0x0000 (by simp)⟩

theorem SelectsItsRow.crcUpdate (b : Byte) : SelectsItsRow.Statement (.crcUpdate b) :=
  ⟨⟨"CRC.UPDATE", .crcUpdate, 0x12000000, 0xFFFFFF00⟩, by simp [opcodeTable], rfl,
    selects_of_operand _ _ 0x12 _ 0xFF00 (byte_operand_mustBeZero b)⟩

theorem SelectsItsRow.crcRead : SelectsItsRow.Statement .crcRead :=
  ⟨⟨"CRC.READ", .crcRead, 0x13000000, 0xFFFFFFFF⟩, by simp [opcodeTable], rfl, by decide⟩

theorem SelectsItsRow.txStart : SelectsItsRow.Statement .txStart :=
  ⟨⟨"TX.START", .txStart, 0x20000000, 0xFFFFFFFF⟩, by simp [opcodeTable], rfl, by decide⟩

theorem SelectsItsRow.txData (b : Byte) : SelectsItsRow.Statement (.txData b) :=
  ⟨⟨"TX.DATA", .txData, 0x21000000, 0xFFFFFF00⟩, by simp [opcodeTable], rfl,
    selects_of_operand _ _ 0x21 _ 0xFF00 (byte_operand_mustBeZero b)⟩

theorem SelectsItsRow.txEnd : SelectsItsRow.Statement .txEnd :=
  ⟨⟨"TX.END", .txEnd, 0x22000000, 0xFFFFFFFF⟩, by simp [opcodeTable], rfl, by decide⟩

theorem SelectsItsRow.rxByte (b : Byte) : SelectsItsRow.Statement (.rxByte b) :=
  ⟨⟨"RX.BYTE", .rxByte, 0x30000000, 0xFFFFFF00⟩, by simp [opcodeTable], rfl,
    selects_of_operand _ _ 0x30 _ 0xFF00 (byte_operand_mustBeZero b)⟩

end Sys2Proof.Laws
end

