-- ==== Sys2Proof/Tests/Slice0.lean ====
section
/-! SUPPORT. Own tests. Expected results come from `spec/95_test_vectors.md` (the vector's id is in
each comment) or are worked by hand from the rule named. The theorems `witness_…` show, for each
statement with hypotheses, concrete values that meet them. -/

namespace Sys2Proof.Tests

open Sys2Proof Sys2Proof.Machine

/-! ## Helpers -/

/-- `DEFAULT` with the vectors' `RX_MAX = 16`. -/
def p16 : Params := Params.defaultProfile 16

/-- `DEFAULT` with `RX_MAX = 4` (X10). -/
def p4 : Params := Params.defaultProfile 4

/-- After reset, with all of the next eight offers accepted. -/
def idle : State := { State.resetWith p16 with answers := List.replicate 8 .accepted }

/-- Inside a TX frame. -/
def sending : State := { idle with txState := .inFrame }

/-- In an open receive frame with some bytes received. -/
def receiving (count : Nat) (hold : List Byte) (crc : Half) : State :=
  { idle with rxState := .data, rxCount := count, rxHold := hold, rxCrc := crc }

/-- The same after an `ESC`. -/
def afterEsc (count : Nat) (hold : List Byte) (crc : Half) : State :=
  { receiving count hold crc with rxState := .esc }

/-- The next state, or the given one where there is none. -/
def nextOr (s : State) : Host.Outcome State Fault Refusal → State
  | .next t => t
  | _ => s

/-- The state after one command. -/
def after (i : Instr) (s : State) : State := nextOr s (exec i s)

/-- Whether an outcome is a next state. -/
def isNext : Host.Outcome State Fault Refusal → Bool
  | .next _ => true
  | _ => false

/-- Whether a step refuses the configuration. -/
def refusesConfiguration : Host.Outcome State Fault Refusal → Bool
  | .refused .badConfiguration => true
  | _ => false

/-! ## Ill-formed terms are refused (R6, R76) -/

theorem test_default_is_wellFormed : p16.wellFormed = true := by decide

theorem test_flag_equal_esc_is_refused : { p16 with esc := 0x7E }.flagIsNotEsc = false ∧
    { p16 with esc := 0x7E }.wellFormed = false := by decide

theorem test_zero_mask_is_refused : { p16 with xmask := 0 }.maskIsNotZero = false ∧
    { p16 with xmask := 0 }.wellFormed = false := by decide

theorem test_small_limit_is_refused : { p16 with rxMax := 1 }.limitHoldsCrc = false ∧
    { p16 with rxMax := 1 }.wellFormed = false := by decide

/-- `0x5E XOR 0x20 = 0x7E` and `0x5D XOR 0x20 = 0x7D`. -/
theorem test_escaped_form_flag_or_esc_is_refused :
    { p16 with extra := [0x5E] }.escapedFormsAreFree = false ∧
    { p16 with extra := [0x5D] }.wellFormed = false := by decide

theorem test_step_refuses_bad_configuration :
    refusesConfiguration (step (State.resetWith { p16 with rxMax := 1 })) = true := by decide

theorem test_operands_that_do_not_fit_are_refused :
    Form.fits .b8 (some 256) = false ∧ Form.fits .h16 (some 65536) = false ∧
    Form.fits .m3 (some 8) = false ∧ Form.fits .s2 (some 4) = false ∧
    Form.fits .z (some 0) = false ∧ Form.fits .b8 none = false := by decide

/-! ## Decoding words written out from R70 to R72 -/

theorem test_decode_control : decode 0x00000000 = .ok .nop ∧
    decode 0x01000007 = .ok (.reset 7) ∧ decode 0x02000002 = .ok (.query 2) := by decide

theorem test_decode_crc : decode 0x10000000 = .ok .crcInit ∧
    decode 0x11004560 = .ok (.crcLoad 0x4560) ∧ decode 0x12000031 = .ok (.crcUpdate 0x31) ∧
    decode 0x13000000 = .ok .crcRead := by decide

theorem test_decode_tx : decode 0x20000000 = .ok .txStart ∧
    decode 0x2100007E = .ok (.txData 0x7E) ∧ decode 0x22000000 = .ok .txEnd := by decide

theorem test_decode_rx : decode 0x30000093 = .ok (.rxByte 0x93) := by decide

/-- K2 to K6, K17, K18, V32 to V34, T19. -/
theorem test_decode_illegal : [0x00000001, 0x00010000, 0x01000008, 0x02000004, 0x03000000,
    0xFF000000, 0x30000100, 0x22000001, 0x12000100, 0x10000001, 0x11FF0000, 0x21000100].all
    (fun w => (decode w).toOption.isNone) = true := by decide

/-- The transcribed `match` column of R72 is the `OP` value in bits 31:24. -/
theorem test_table_patterns : opcodeTable.map (fun r => (r.opcode, r.pattern)) =
    Opcode.all.map fun o => (o, (o.code.setWidth 32 : Word) <<< 24) := by decide

/-- The transcribed `mask` column of R72 is `OP`, `RSV` and the form's must-be-zero bits. -/
theorem test_table_masks : opcodeTable.map (fun r => r.mask) =
    Opcode.all.map fun o => 0xFFFF0000 ||| o.form.mustBeZero.setWidth 32 := by decide

/-- R76's example line, with a comment and lower case. -/
theorem test_assemble_text : assembleText "tx.data 0x7E ; FLAG as data".toList =
    some [.txData 0x7E] := by decide

theorem test_assemble_pseudo : assembleText "CRC.COMPUTE 0x4560, 54".toList =
    some [.crcLoad 0x4560, .crcUpdate 54, .crcRead] ∧
    assembleText "TX.FRAME".toList = some [.txStart, .txEnd] ∧
    assembleText "RESET 8".toList = none := by decide

/-! ## The CRC function (V1, V2, V4, V8, V12) -/

theorem test_crcStep : crcStep 0x1021 0xFFFF 0x00 = 0xE1F0 ∧ crcStep 0x1021 0xFFFF 0xFF = 0xFF00 ∧
    crcStep 0x1021 0x0000 0x01 = 0x1021 ∧ crcStep 0x1021 0x1234 0x56 = 0x3C40 := by decide

/-- The check value `0x29B1` of the digits, in the two chunks of V12. -/
theorem test_crc_first_chunk : crcOf p16 [0x31, 0x32, 0x33, 0x34, 0x35] = 0x4560 := by
  decide +kernel

theorem test_crc_second_chunk : crcFold 0x1021 0x4560 [0x36, 0x37, 0x38, 0x39] = 0x29B1 := by
  decide +kernel

/-! ## One step per command -/

/-- K1. -/
theorem test_nop : after .nop idle = { idle with responses := [⟨.ok, 0⟩] } := by decide

/-- K14, K16: `RESET 4` leaves TX alone. -/
theorem test_reset_rx_only : (after (.reset 4) { receiving 5 [1, 2] 3 with txState := .inFrame }).rxCount
    = 0 ∧ (after (.reset 4) { sending with rxState := .esc }).txState = .inFrame := by decide

/-- K11, K13. -/
theorem test_query_status : (after (.query 0) (receiving 1 [0x41] 0xFFFF)).responses =
    [⟨.ok, 0x000A⟩] ∧ (after (.query 0) (afterEsc 1 [0x41] 0xFFFF)).responses = [⟨.ok, 0x000C⟩] := by
  decide

/-- R202: `QUERY 3` saturates. -/
theorem test_query_count_saturates :
    (after (.query 3) (receiving 65536 [1, 2] 3)).responses = [⟨.ok, 0xFFFF⟩] := by decide

/-- V28. -/
theorem test_crcInit : (after .crcInit { idle with crcAcc := 0x1234 }).crcAcc = 0xFFFF := by decide

/-- V29. -/
theorem test_crcLoad : (after (.crcLoad 0xABCD) idle).crcAcc = 0xABCD := by decide

/-- V30. -/
theorem test_crcUpdate : (after (.crcUpdate 0xFF) { idle with crcAcc := 0xABCD }).crcAcc = 0xD771 := by
  decide

/-- V31. -/
theorem test_crcRead :
    ((after .crcRead { idle with crcAcc := 0xD771 }).responses.map Response.word) = [0x0000D771] := by
  decide

/-- T13: a second `TX.START` is refused by status. -/
theorem test_txStart_in_frame : (after .txStart sending).responses = [⟨.protocolViolation, 0⟩] ∧
    (after .txStart sending).wire = [] := by decide

/-- T15. -/
theorem test_txStart_failed :
    ((after .txStart { idle with answers := [.failed] }).responses.map Response.word) =
      [0x00040000] ∧ (after .txStart { idle with answers := [.failed] }).txState = .idle := by decide

/-- R133's example. -/
theorem test_txData_escapes : (after (.txData 0x7E) sending).wire = [0x7D, 0x5E] ∧
    (after (.txData 0x7E) sending).txCrc = 0x7EA9 := by decide

/-- T16: the transport fails on the second byte of a pair. -/
theorem test_txData_second_byte_fails :
    after (.txData 0x7E) { sending with answers := [.accepted, .failed, .accepted] } =
      { sending with
        answers := [.accepted], offers := 2, wire := [0x7D], txCrc := 0x7EA9, txState := .idle
        responses := [⟨.transportWriteFailure, 0⟩] } := by decide

/-- R134's example, and T8: five bytes. -/
theorem test_txEnd : (after .txEnd { sending with txCrc := 0x7EA9 }).wire = [0x7D, 0x5E, 0xA9, 0x7E] ∧
    (after .txEnd { sending with txCrc := 0x7D7E }).wire = [0x7D, 0x5D, 0x7D, 0x5E, 0x7E] := by decide

/-- T10: low byte first. -/
theorem test_txEnd_le :
    (after .txEnd { sending with txCrc := 0x939E, cfg := { p16 with crcOrder := .le } }).wire =
      [0x9E, 0x93, 0x7E] := by decide

/-- R168's example. -/
theorem test_rxByte_holdback :
    after (.rxByte 0x93) (receiving 3 [0x01, 0x7D] 0x7EA9) =
      { receiving 4 [0x7D, 0x93] 0x2678 with
        sink := [.write 0x01], responses := [⟨.ok, 0⟩] } := by decide

/-- X10's overflow, X7's and X8's bad escape, X4's runt, X15's low-byte-first terminator. -/
theorem test_rxByte_endings :
    (after (.rxByte 0x9C) { receiving 4 [0x10, 0xED] 0x0D2E with cfg := p4 }).sink =
      [.done false .overflow] ∧
    (after (.rxByte 0x7D) (afterEsc 3 [0x42, 0x43] 0xB915)).rxState = .hunt ∧
    (after (.rxByte 0x7E) (afterEsc 3 [0x42, 0x43] 0xB915)).rxState = .data ∧
    (after (.rxByte 0x7E) (receiving 1 [0x41] 0xFFFF)).sink = [.done false .runt] ∧
    (after (.rxByte 0x7E) { receiving 5 [0x9E, 0x93] 0x939E with
      cfg := { p16 with crcOrder := .le } }).sink = [.done true .none] := by decide

/-! ## The step, from the model's reset state -/

/-- Every row's first word is run as the first command after reset, whatever `RX_MAX` and the
transport's answers are. -/
theorem test_first_command_after_reset : [0x00000000, 0x01000000, 0x02000000, 0x10000000, 0x11000000,
    0x12000000, 0x13000000, 0x20000000, 0x21000000, 0x22000000, 0x30000000].all
    (fun w => isNext (step (State.reset.withFetchWord 32 w))) = true := by decide

theorem test_decodeTableWord : decodeTableWord 32 0x30000093 = some (.rxByte 0x93) ∧
    decodeTableWord 32 0x30000193 = none := by decide

/-- R250: reset is asserted in the middle of frames. -/
theorem test_asserted_reset :
    nextOr idle (step { receiving 3 [1, 2] 3 with inputs := [.assertReset], txState := .inFrame }) =
      idle := by decide

/-! ## Witnesses: concrete values that meet a statement's hypotheses -/

/-- A pending word. -/
def pending (w : Word) (s : State) : State := { s with inputs := [.word w, .assertReset] }

/-- A receive state within the invariants: three bytes of a frame. -/
theorem midFrame_inv : (receiving 3 [0xB9, 0x15] 0xB915).Inv :=
  ⟨by decide, by decide, by decide, by decide⟩

theorem witness_LegalWordsAreTheTableRows : decode 0x2100007E = .ok (.txData 0x7E) ∧
    (⟨"TX.DATA", .txData, 0x21000000, 0xFFFFFF00⟩ : Row) ∈ opcodeTable ∧
    (⟨"TX.DATA", .txData, 0x21000000, 0xFFFFFF00⟩ : Row).selects 0x2100007E = true := by decide

/-- The ends of the four ranges, and their neighbours in the table lie outside. -/
theorem witness_ReservedOpcodesAreIllegal :
    [0x03, 0x0F, 0x14, 0x1F, 0x23, 0x2F, 0x31, 0xFF].all (fun b => (opcodeOf b).isNone) = true ∧
    [0x02, 0x10, 0x13, 0x20, 0x22, 0x30].all (fun b => (opcodeOf b).isSome) = true := by decide

/-- One value at each side of every bound. -/
theorem witness_AssemblerTakesExactlyWhatFits :
    Opcode.txData.form ≠ .z ∧ 255 < 2 ^ Opcode.txData.form.valueBits ∧
    2 ^ Opcode.txData.form.valueBits ≤ 256 ∧ 65535 < 2 ^ Opcode.crcLoad.form.valueBits ∧
    7 < 2 ^ Opcode.reset.form.valueBits ∧ 3 < 2 ^ Opcode.query.form.valueBits ∧
    Opcode.nop.form = .z := by decide

theorem witness_StepRunsTheDecodedCommand :
    (pending 0x2100007E sending).cfg.wellFormed = true ∧
    (pending 0x2100007E sending).inputs = .word 0x2100007E :: [.assertReset] ∧
    decode 0x2100007E = .ok (.txData 0x7E) ∧
    decodeTableWord 32 0x2100007E = some (.txData 0x7E) := by decide

theorem witness_IllegalWordOnlyResponds :
    (pending 0x21000100 idle).cfg.wellFormed = true ∧
    (pending 0x21000100 idle).inputs = .word 0x21000100 :: [.assertReset] ∧
    ∀ r ∈ opcodeTable, r.selects 0x21000100 = false := by decide

/-- The three causes of R226 on `TX.DATA`. -/
theorem witness_StatusesAreCheckedInOrder :
    (Instr.txData 0x7E, TxState.idle, escape sending.cfg 0x7E) ∈
      [(Instr.txStart, TxState.inFrame, [sending.cfg.flag]),
        (.txData 0x7E, .idle, escape sending.cfg 0x7E), (.txEnd, .idle, closing sending.cfg 0)] ∧
    idle.txState = .idle ∧ sending.txState ≠ .idle ∧ sending.acceptsNext 2 ∧
    { sending with answers := [.accepted, .failed] }.refusesAt 2 1 ∧
    unitOf .crcRead ≠ some .tx ∧ isNext (exec .crcRead idle) = true := by decide

theorem witness_AssertedResetRestoresEveryElement :
    { sending with inputs := [.assertReset] }.cfg.wellFormed = true ∧
    { sending with inputs := [.assertReset] }.inputs = .assertReset :: [] := by decide

theorem witness_EveryWordCompletesWithOneResponse :
    (pending 0x3000007E (receiving 3 [0xB9, 0x15] 0xB915)).cfg.wellFormed = true ∧
    (pending 0x3000007E (receiving 3 [0xB9, 0x15] 0xB915)).Inv :=
  ⟨by decide, by decide, by decide, by decide, by decide⟩

/-- The one refusal of `exec` is reached. -/
theorem witness_OnlyABrokenHoldbackIsRefused :
    exec (.rxByte 0x7E) (receiving 2 [0x41] 0xFFFF) = .refused .brokenHoldback := rfl

/-- Illegal words with each of the `OP` values that `illegalUnless` is stated for. -/
theorem witness_illegalUnless : opField 0x00000001 = 0x00 ∧ (0x00000001 : Word) ≠ 0x00000000 ∧
    opField 0x01000008 = 0x01 ∧ (0x01000008 : Word).extractLsb' 3 21 ≠ 0 ∧
    opField 0x02000004 = 0x02 ∧ (0x02000004 : Word).extractLsb' 2 22 ≠ 0 ∧
    opField 0x10000001 = 0x10 ∧ opField 0x11FF0000 = 0x11 ∧ rsvField 0x11FF0000 ≠ 0 ∧
    opField 0x12000100 = 0x12 ∧ (0x12000100 : Word).extractLsb' 8 16 ≠ 0 ∧
    opField 0x30000100 = 0x30 ∧ (0x30000100 : Word).extractLsb' 8 16 ≠ 0 := by decide

theorem witness_StatusWordFields : (receiving 0 [] 0xFFFF).rxHold.length ≤ 2 ∧
    (afterEsc 3 [1, 2] 0).rxHold.length ≤ 2 := by decide

theorem witness_OwnCrcBytesFoldToZero : p16.crcOrder = .be := by decide

theorem witness_ZeroByteChangesEveryNonzeroAccumulator :
    { idle with crcAcc := 0x1234 }.cfg.poly = 0x1021 ∧ { idle with crcAcc := 0x1234 }.crcAcc ≠ 0 ∧
    ∃ t, exec (.crcUpdate 0x00) { idle with crcAcc := 0x1234 } = .next t :=
  ⟨by decide, by decide, _, rfl⟩

theorem witness_OneReplacedByteIsDetected : p16.poly.getLsbD 0 = true ∧
    endsInCrc p16 [0x41, 0xB9, 0x15] ∧ 0 < [0x41, 0xB9, (0x15 : Byte)].length ∧
    [0x41, 0xB9, (0x15 : Byte)].getD 0 0 ≠ 0x40 := by decide

/-- X3: one bit of the last byte. -/
theorem differInWindow_last_byte : differInWindow [0x41, 0xB9, 0x15] [0x41, 0xB9, 0x14] := by
  refine ⟨rfl, by decide, 16, ?_⟩
  decide

theorem witness_ShortBurstIsDetectedHighByteFirst : p16.poly.getLsbD 0 = true ∧
    p16.crcOrder = .be ∧ endsInCrc p16 [0x41, 0xB9, 0x15] ∧
    differInWindow [0x41, 0xB9, 0x15] [0x41, 0xB9, 0x14] :=
  ⟨by decide, by decide, by decide, differInWindow_last_byte⟩

theorem witness_ShortBurstIsDetectedInEitherOrder : p16.poly.getLsbD 0 = true ∧
    endsInCrc p16 [0x41, 0xB9, 0x15] ∧ differInWindow [0x41, 0xB9, 0x15] [0x41, 0xB9, 0x14] :=
  ⟨by decide, by decide, differInWindow_last_byte⟩

theorem witness_EscapedFormOfAByte : ((0x7E : Byte) = p16.flag ∨ (0x7E : Byte) = p16.esc ∨
    (0x7E : Byte) ∈ p16.extra) ∧ ¬ ((0x41 : Byte) = p16.flag ∨ (0x41 : Byte) = p16.esc ∨
    (0x41 : Byte) ∈ p16.extra) := by decide

/-- All accepted, the first refused, the last refused. -/
theorem witness_FirstRefusedByteAbandonsTheFrame : idle.acceptsNext 5 ∧
    { idle with answers := [.failed] }.refusesAt 5 0 ∧
    { idle with answers := [.accepted, .accepted, .accepted, .accepted, .failed] }.refusesAt 5 4 := by
  decide

theorem witness_TxStartOpensAFrame : sending.txState = .inFrame ∧ idle.txState = .idle ∧
    idle.answerAt 0 = .accepted ∧ { idle with answers := [.failed] }.answerAt 0 = .failed := by decide

theorem witness_TxDataSendsOneEscapedByte : idle.txState = .idle ∧ sending.txState = .inFrame ∧
    sending.acceptsNext (escape sending.cfg 0x7E).length ∧
    { sending with answers := [.accepted, .failed] }.refusesAt (escape sending.cfg 0x7E).length 1 := by
  decide

/-- Both orders of the CRC bytes `7E A9`. -/
theorem witness_TxEndClosesTheFrame :
    let s := { sending with txCrc := 0x7EA9 }
    let l := { s with cfg := { p16 with crcOrder := .le } }
    s.cfg.crcOrder = .be ∧ s.txCrc.extractLsb' 8 8 = 0x7E ∧ s.txCrc.extractLsb' 0 8 = 0xA9 ∧
    l.cfg.crcOrder = .le ∧ s.txState = .inFrame ∧
    s.acceptsNext (escape s.cfg 0x7E ++ escape s.cfg 0xA9 ++ [s.cfg.flag]).length ∧
    { s with answers := [.accepted, .failed] }.refusesAt
      (escape s.cfg 0x7E ++ escape s.cfg 0xA9 ++ [s.cfg.flag]).length 1 := by decide

theorem witness_TxFrameSendsExactlyTheFrame : idle.txState = .idle ∧
    idle.acceptsNext (frame idle.cfg [0x7E]).length := by decide

theorem witness_FrameHasFlagsOnlyAtItsEnds : p16.wellFormed = true ∧
    (frame p16 [0x7E])[1]? = some p16.esc ∧ (frame p16 [0x7E])[0]? = some p16.flag := by decide

theorem witness_NoCommandEmitsMoreThanFiveBytes :
    (∃ t, exec .txEnd { sending with txCrc := 0xB915 } = .next t) ∧
    p16.reserved (splitCrc p16.crcOrder 0xB915).1 = false ∧
    p16.reserved (splitCrc p16.crcOrder 0xB915).2 = false := ⟨⟨_, rfl⟩, by decide⟩

theorem witness_HuntWaitsForTheFlag : idle.rxState = .hunt ∧ (0x41 : Byte) ≠ idle.cfg.flag := by decide

theorem witness_TerminatorEndsAndReopens : (receiving 0 [] 0xFFFF).rxState = .data ∧
    (receiving 0 [] 0xFFFF).rxCount = 0 ∧ (receiving 1 [0x41] 0xFFFF).rxCount = 1 ∧
    2 ≤ (receiving 2 [0xFF, 0xFF] 0xFFFF).rxCount ∧
    (receiving 2 [0xFF, 0xFF] 0xFFFF).rxHold = [0xFF, 0xFF] := by decide

/-- A raw byte and a pair; at the limit, one below it, and with the holdback part full and full. -/
theorem witness_AcceptedByteGoesThroughTheHoldback :
    (receiving 1 [0x41] 0xFFFF).rxState = .data ∧ (0x93 : Byte) ≠ p16.flag ∧
    (0x93 : Byte) ≠ p16.esc ∧ (afterEsc 1 [0x41] 0xFFFF).rxState = .esc ∧
    (0x5E : Byte) ≠ p16.flag ∧ (0x5E : Byte) ≠ p16.esc ∧
    p16.reserved (0x5E ^^^ p16.xmask) = true ∧ (receiving 16 [1, 2] 3).rxCount = p16.rxMax ∧
    (receiving 15 [1, 2] 3).rxCount ≠ p16.rxMax ∧ (receiving 15 [1, 2] 3).rxHold = [1, 2] ∧
    (receiving 1 [0x41] 0xFFFF).rxHold.length < 2 := by decide

theorem witness_DataByteIsSorted : (receiving 0 [] 0xFFFF).rxState = .data ∧
    (receiving 2 [0xFF, 0xFF] 0xFFFF).endFrame.isSome = true ∧ p16.esc ≠ p16.flag ∧ (0x41 : Byte) ≠ p16.flag ∧ (0x41 : Byte) ≠ p16.esc := by decide

/-- X7, X8, X9: `ESC`, `FLAG` and a byte that is no escaped reserved value; and a valid pair. -/
theorem witness_BrokenPairAbortsTheFrame : (afterEsc 0 [] 0xFFFF).rxState = .esc ∧
    (0x5E : Byte) ≠ p16.flag ∧ (0x5E : Byte) ≠ p16.esc ∧ p16.reserved (0x5E ^^^ p16.xmask) = true ∧
    (0x7E : Byte) = p16.flag ∧ (0x7D : Byte) = p16.esc ∧
    p16.reserved (0x41 ^^^ p16.xmask) = false := by decide

theorem witness_ReceivedByteGivesAtMostOneEvent :
    ∃ t, exec (.rxByte 0x93) (receiving 3 [0x01, 0x7D] 0x7EA9) = .next t := ⟨_, rfl⟩

/-- Every reason is given by some byte. -/
theorem witness_EachReasonHasItsOneCause :
    (after (.rxByte 0x7E) (receiving 3 [0xB9, 0x15] 0xB915)).sink = [.done true .none] ∧
    (after (.rxByte 0x7E) (receiving 3 [0xB9, 0x14] 0xB915)).sink = [.done false .crcMismatch] ∧
    (after (.rxByte 0x7E) (receiving 1 [0x41] 0xFFFF)).sink = [.done false .runt] ∧
    (after (.rxByte 0x41) (afterEsc 1 [0x41] 0xFFFF)).sink = [.done false .badEscape] ∧
    (after (.rxByte 0x5E) (afterEsc 16 [1, 2] 3)).sink = [.done false .overflow] := by decide

/-- With `RX_MAX = 4`, a body at the limit, then one more byte, raw or as a pair. -/
theorem witness_FrameEventsAreThoseOfItsBytes :
    let s := { receiving 0 [] 0xFFFF with cfg := p4 }
    s.cfg.wellFormed = true ∧ s.freshFrame ∧
    unescape s.cfg [0x01, 0x7D, 0x5E, 0x0E, 0x7C] = some [0x01, 0x7E, 0x0E, 0x7C] ∧
    [0x01, 0x7E, 0x0E, (0x7C : Byte)].length = s.cfg.rxMax ∧ pairs s.cfg 0x41 = false ∧
    unescape s.cfg [0x41] = some [0x41] ∧ unescape s.cfg [0x7D, 0x5D] = some [0x7D] ∧
    unescape s.cfg [] = some [] := by decide

/-- X11: two bytes fit `RX_MAX = 4`, three do not. -/
theorem witness_ReceivedFrameDeliversItsPayload :
    p4.wellFormed = true ∧ { idle with cfg := p4 }.rxState = .hunt ∧
    (receiving 0 [] 0xFFFF).freshFrame ∧ [0x01, (0x02 : Byte)].length + 2 ≤ p4.rxMax ∧
    p4.rxMax < [0x00, 0x01, (0x10 : Byte)].length + 2 := by decide

theorem witness_ReceiverResynchronisesOnAFrame :
    (receiving 3 [0xB9, 0x15] 0xB915).cfg.wellFormed = true ∧
    (receiving 3 [0xB9, 0x15] 0xB915).Inv ∧
    [(0x41 : Byte)].length + 2 ≤ (receiving 3 [0xB9, 0x15] 0xB915).cfg.rxMax :=
  ⟨by decide, midFrame_inv, by decide⟩

theorem witness_LinkDeliversThePayload :
    let receiver := { idle with cfg := p4 }
    receiver.cfg.wellFormed = true ∧ idle.cfg = { receiver.cfg with rxMax := idle.cfg.rxMax } ∧
    [(0x41 : Byte)].length + 2 ≤ receiver.cfg.rxMax ∧ idle.txState = .idle ∧ idle.wire = [] ∧
    idle.acceptsNext (2 * [(0x41 : Byte)].length + 6) ∧ receiver.rxState = .hunt := by decide

theorem witness_EveryStepKeepsTheInvariants : (receiving 3 [0xB9, 0x15] 0xB915).Inv ∧
    ∃ t, step (receiving 3 [0xB9, 0x15] 0xB915) = .next t := ⟨midFrame_inv, _, rfl⟩

theorem witness_ElementsHaveOnlyTheirWriters :
    (after (.crcLoad 1) idle).crcAcc ≠ idle.crcAcc ∧ (after .txEnd sending).txState ≠ sending.txState ∧
    (after (.txData 0) sending).txCrc ≠ sending.txCrc ∧ ¬ sameRx idle (after (.rxByte 0x7E) idle) ∧
    isNext (exec (.crcLoad 1) idle) = true := by decide

theorem witness_ResponsesAndTheirWords :
    (after .txEnd idle).responses = [⟨.protocolViolation, 0⟩] ∧
    (after .crcRead idle).responses = [⟨.ok, 0xFFFF⟩] := by decide

theorem witness_UnitsAreIndependent : unitOf (.txData 0x41) = some .tx ∧
    unitOf (.rxByte 0x93) = some .rx ∧ BlockUnit.tx ≠ .rx ∧ unitOf .crcRead = some .crc ∧
    ∃ t, runCommands [.txData 0x41, .rxByte 0x93] { receiving 3 [0x01, 0x7D] 0x7EA9 with
      txState := .inFrame } = .next t := ⟨by decide, by decide, by decide, by decide, _, rfl⟩

/-- Two states that differ outside the RX unit and agree on it. -/
theorem witness_CommandsReadOnlyTheirUnit : sameConfig idle { sending with crcAcc := 1 } ∧
    sameRx idle { sending with crcAcc := 1 } ∧ sameTx idle { idle with crcAcc := 1 } ∧
    sameTransport idle { idle with crcAcc := 1 } ∧ sameCrcUnit idle sending ∧
    ∃ t, exec (.rxByte 0x7E) idle = .next t :=
  ⟨by decide, by decide, by decide, by decide, by decide, _, rfl⟩

theorem witness_RepeatedCommands : idle.txState = .idle ∧ idle.answerAt 0 = .accepted := by decide

theorem witness_OutputsAreNeverRead : (∃ t, step (pending 0x20000000 idle) = .next t) ∧
    ∃ r, step (pending 0x3000007E (receiving 2 [0x41] 0xFFFF)) = .refused r :=
  ⟨⟨_, rfl⟩, _, rfl⟩

theorem witness_StepTakesOneInputAndKeepsTheConfiguration :
    (∃ t, step (pending 0x20000000 idle) = .next t) ∧ idle.cfg.wellFormed = true ∧
    idle.inputs = [] := ⟨⟨_, rfl⟩, by decide, by decide⟩

theorem witness_StepsRunTheCommandsInOrder :
    { idle with inputs := [.word 0x20000000, .word 0x22000000, .assertReset] }.cfg.wellFormed = true ∧
    { idle with inputs := [.word 0x20000000, .word 0x22000000, .assertReset] }.inputs =
      [Instr.txStart, .txEnd].map (fun i => .word (encode i)) ++ [.assertReset] := by decide

end Sys2Proof.Tests
end

section
/-! The step, one equation per case (R6, R30, R73, R234, R250), and what `exec` can answer. -/

namespace Sys2Proof.Machine

section
variable {s : State}

theorem step_of_illFormed (hwf : s.cfg.wellFormed = false) :
    step s = .refused .badConfiguration := by
  simp [step, hwf]

theorem step_of_noInput (hwf : s.cfg.wellFormed = true) (hi : s.inputs = []) :
    step s = .next s := by
  simp [step, State.takeInput, hwf, hi]

theorem step_of_assertReset {rest : List Input} (hwf : s.cfg.wellFormed = true)
    (hi : s.inputs = .assertReset :: rest) :
    step s = .next { s with inputs := rest }.powerOn := by
  simp [step, State.takeInput, hwf, hi]

theorem step_of_legalWord {w : Word} {i : Instr} {rest : List Input}
    (hwf : s.cfg.wellFormed = true) (hi : s.inputs = .word w :: rest) (hd : decode w = .ok i) :
    step s = exec i { s with inputs := rest } := by
  simp [step, State.takeInput, hwf, hi, hd]

theorem step_of_illegalWord {w : Word} {e : IllegalWord} {rest : List Input}
    (hwf : s.cfg.wellFormed = true) (hi : s.inputs = .word w :: rest) (hd : decode w = .error e) :
    step s = .next { s with inputs := rest }.rejectWord := by
  simp [step, State.takeInput, hwf, hi, hd]

end

/-- A command completes or meets the broken holdback of `RX.BYTE` (log 8). -/
theorem exec_next_or_brokenHoldback (i : Instr) (s : State) :
    (∃ t, exec i s = .next t) ∨ exec i s = .refused .brokenHoldback := by
  cases i with
  | rxByte b =>
    change (∃ t, execRxByte b s = .next t) ∨ execRxByte b s = .refused .brokenHoldback
    cases hr : s.receive b with
    | some t => exact .inl ⟨t.respond .ok 0, by simp [execRxByte, hr]⟩
    | none => exact .inr (by simp [execRxByte, hr])
  | _ => exact .inl ⟨_, rfl⟩

end Sys2Proof.Machine
end

section
/-! R6: which parameter sets are well formed, and when a step is refused for them. -/

namespace Sys2Proof.Machine

/-- The four conditions of R6. -/
theorem wellFormed_iff (p : Params) :
    p.wellFormed = true ↔
      p.flag ≠ p.esc ∧ p.xmask ≠ 0 ∧ 2 ≤ p.rxMax ∧
        ∀ r : Byte, r = p.flag ∨ r = p.esc ∨ r ∈ p.extra →
          r ^^^ p.xmask ≠ p.flag ∧ r ^^^ p.xmask ≠ p.esc := by
  simp [Params.wellFormed, Params.flagIsNotEsc, Params.maskIsNotZero, Params.limitHoldsCrc,
    Params.escapedFormsAreFree, Params.reservedBytes, and_assoc]

theorem defaultProfile_wellFormed {n : Nat} (hn : 2 ≤ n) :
    (Params.defaultProfile n).wellFormed = true := by
  have hflag : (0x7E : Byte) ≠ 0x7D := by decide
  have hmask : (0x20 : Byte) ≠ 0 := by decide
  have hfree : ∀ r : Byte, r = 0x7E ∨ r = 0x7D → r ^^^ 0x20 ≠ 0x7E ∧ r ^^^ 0x20 ≠ 0x7D := by
    rintro r (rfl | rfl) <;> decide
  exact (wellFormed_iff _).mpr
    ⟨hflag, hmask, hn, fun r hr => hfree r (by simpa [Params.defaultProfile] using hr)⟩

theorem exec_ne_badConfiguration (i : Instr) (s : State) :
    exec i s ≠ .refused .badConfiguration := by
  rcases exec_next_or_brokenHoldback i s with ⟨t, h⟩ | h <;> simp [h]

/-- With a well-formed parameter set nothing a step does ends in `badConfiguration`. -/
theorem step_eq_badConfiguration_iff (s : State) :
    step s = .refused .badConfiguration ↔ ¬ s.cfg.wellFormed = true := by
  refine ⟨fun h hwf => ?_, fun h => step_of_illFormed (by simpa using h)⟩
  rcases hi : s.inputs with _ | ⟨_ | _, rest⟩
  case nil => simp [step_of_noInput hwf hi] at h
  case cons.assertReset => simp [step_of_assertReset hwf hi] at h
  case cons.word w =>
    cases hd : decode w with
    | ok i => exact exec_ne_badConfiguration _ _ (step_of_legalWord hwf hi hd ▸ h)
    | error e => simp [step_of_illegalWord hwf hi hd] at h

/-- Settles O13: the refusal is `wellFormed` failing, and `wellFormed` is R6's four conditions. -/
theorem illFormedParametersAreRefused : Obligations.IllFormedParametersAreRefused :=
  ⟨fun s => (step_eq_badConfiguration_iff s).trans (not_congr (wellFormed_iff s.cfg)),
    fun _ => defaultProfile_wellFormed⟩

end Sys2Proof.Machine
end

section
/-! R9, R28, R33: every operation commutes with putting earlier outputs before those of the state.
As simp lemmas the equations move `withEarlierOutputs` outwards, past each operation. -/

namespace Sys2Proof.Machine

/-- The outcome with `f` applied to its next state, if it has one. -/
def mapNext (f : State → State) :
    Host.Outcome State Fault Refusal → Host.Outcome State Fault Refusal
  | .next t => .next (f t)
  | .fault r => .fault r
  | .refused r => .refused r

@[simp] theorem mapNext_next (f : State → State) (t : State) :
    mapNext f (.next t) = .next (f t) := rfl

@[simp] theorem mapNext_refused (f : State → State) (r : Refusal) :
    mapNext f (.refused r) = .refused r := rfl

section
variable (s : State) (rs : List Response) (ws : List Byte) (es : List SinkEvent)

/-! ## What the operations read is unchanged -/

@[simp] theorem withEarlierOutputs_cfg : (s.withEarlierOutputs rs ws es).cfg = s.cfg := rfl
@[simp] theorem withEarlierOutputs_crcAcc :
    (s.withEarlierOutputs rs ws es).crcAcc = s.crcAcc := rfl
@[simp] theorem withEarlierOutputs_txState :
    (s.withEarlierOutputs rs ws es).txState = s.txState := rfl
@[simp] theorem withEarlierOutputs_txCrc : (s.withEarlierOutputs rs ws es).txCrc = s.txCrc := rfl
@[simp] theorem withEarlierOutputs_rxState :
    (s.withEarlierOutputs rs ws es).rxState = s.rxState := rfl
@[simp] theorem withEarlierOutputs_rxCrc : (s.withEarlierOutputs rs ws es).rxCrc = s.rxCrc := rfl
@[simp] theorem withEarlierOutputs_rxCount :
    (s.withEarlierOutputs rs ws es).rxCount = s.rxCount := rfl
@[simp] theorem withEarlierOutputs_rxHold :
    (s.withEarlierOutputs rs ws es).rxHold = s.rxHold := rfl
@[simp] theorem withEarlierOutputs_queried (sel : BitVec 2) :
    (s.withEarlierOutputs rs ws es).queried sel = s.queried sel := rfl

/-! ## Writing an element, and reset -/

@[simp] theorem setCrcAcc_withEarlierOutputs (v : Half) :
    (s.withEarlierOutputs rs ws es).setCrcAcc v =
      (s.setCrcAcc v).withEarlierOutputs rs ws es := rfl
@[simp] theorem setTxState_withEarlierOutputs (v : TxState) :
    (s.withEarlierOutputs rs ws es).setTxState v =
      (s.setTxState v).withEarlierOutputs rs ws es := rfl
@[simp] theorem setTxCrc_withEarlierOutputs (v : Half) :
    (s.withEarlierOutputs rs ws es).setTxCrc v =
      (s.setTxCrc v).withEarlierOutputs rs ws es := rfl
@[simp] theorem setRxState_withEarlierOutputs (v : RxState) :
    (s.withEarlierOutputs rs ws es).setRxState v =
      (s.setRxState v).withEarlierOutputs rs ws es := rfl
@[simp] theorem setRxCrc_withEarlierOutputs (v : Half) :
    (s.withEarlierOutputs rs ws es).setRxCrc v =
      (s.setRxCrc v).withEarlierOutputs rs ws es := rfl
@[simp] theorem setRxCount_withEarlierOutputs (v : Nat) :
    (s.withEarlierOutputs rs ws es).setRxCount v =
      (s.setRxCount v).withEarlierOutputs rs ws es := rfl
@[simp] theorem setRxHold_withEarlierOutputs (v : List Byte) :
    (s.withEarlierOutputs rs ws es).setRxHold v =
      (s.setRxHold v).withEarlierOutputs rs ws es := rfl
@[simp] theorem frameClear_withEarlierOutputs :
    (s.withEarlierOutputs rs ws es).frameClear =
      s.frameClear.withEarlierOutputs rs ws es := rfl
@[simp] theorem openFrame_withEarlierOutputs :
    (s.withEarlierOutputs rs ws es).openFrame = s.openFrame.withEarlierOutputs rs ws es := rfl

@[simp] theorem resetCrc_withEarlierOutputs :
    (s.withEarlierOutputs rs ws es).resetCrc = s.resetCrc.withEarlierOutputs rs ws es := rfl
@[simp] theorem resetTx_withEarlierOutputs :
    (s.withEarlierOutputs rs ws es).resetTx = s.resetTx.withEarlierOutputs rs ws es := rfl
@[simp] theorem resetRx_withEarlierOutputs :
    (s.withEarlierOutputs rs ws es).resetRx = s.resetRx.withEarlierOutputs rs ws es := rfl

theorem ite_withEarlierOutputs (c : Prop) [Decidable c] (t : State) :
    (if c then s.withEarlierOutputs rs ws es else t.withEarlierOutputs rs ws es) =
      (if c then s else t).withEarlierOutputs rs ws es :=
  (apply_ite (·.withEarlierOutputs rs ws es) c s t).symm

@[simp] theorem resetUnits_withEarlierOutputs (mask : BitVec 3) :
    (s.withEarlierOutputs rs ws es).resetUnits mask =
      (s.resetUnits mask).withEarlierOutputs rs ws es := by
  simp only [State.resetUnits, resetCrc_withEarlierOutputs, resetTx_withEarlierOutputs,
    resetRx_withEarlierOutputs, ite_withEarlierOutputs]

/-! ## Ports: an output is added at the end -/

@[simp] theorem respond_withEarlierOutputs (st : Status) (d : Half) :
    (s.withEarlierOutputs rs ws es).respond st d =
      (s.respond st d).withEarlierOutputs rs ws es := by
  simp [State.respond, State.withEarlierOutputs]

@[simp] theorem sinkWrite_withEarlierOutputs (b : Byte) :
    (s.withEarlierOutputs rs ws es).sinkWrite b =
      (s.sinkWrite b).withEarlierOutputs rs ws es := by
  simp [State.sinkWrite, State.withEarlierOutputs]

@[simp] theorem sinkDone_withEarlierOutputs (valid : Bool) (reason : Reason) :
    (s.withEarlierOutputs rs ws es).sinkDone valid reason =
      (s.sinkDone valid reason).withEarlierOutputs rs ws es := by
  simp [State.sinkDone, State.withEarlierOutputs]

@[simp] theorem afterAccepted_withEarlierOutputs (bytes : List Byte) :
    (s.withEarlierOutputs rs ws es).afterAccepted bytes =
      (s.afterAccepted bytes).withEarlierOutputs rs ws es := by
  simp [State.afterAccepted, State.withEarlierOutputs]

@[simp] theorem afterRefused_withEarlierOutputs (bytes : List Byte) (k : Nat) :
    (s.withEarlierOutputs rs ws es).afterRefused bytes k =
      (s.afterRefused bytes k).withEarlierOutputs rs ws es := by
  simp [State.afterRefused, State.withEarlierOutputs]

/-- The transport answers without regard to earlier outputs, so the same bytes go out. -/
@[simp] theorem sendAndRespond_withEarlierOutputs (bytes : List Byte) :
    (s.withEarlierOutputs rs ws es).sendAndRespond bytes =
      (s.sendAndRespond bytes).withEarlierOutputs rs ws es := by
  rcases accepts_or_refuses s bytes.length with h | ⟨k, h⟩
  · have h' : (s.withEarlierOutputs rs ws es).acceptsNext bytes.length := h
    simp [State.sendAndRespond, emitAll_accepted _ _ h, emitAll_accepted _ _ h']
  · have h' : (s.withEarlierOutputs rs ws es).refusesAt bytes.length k := h
    simp [State.sendAndRespond, emitAll_refused _ _ _ h, emitAll_refused _ _ _ h']

/-! ## The RX procedures -/

@[simp] theorem abort_withEarlierOutputs (reason : Reason) :
    (s.withEarlierOutputs rs ws es).abort reason =
      (s.abort reason).withEarlierOutputs rs ws es := by
  by_cases h : 1 ≤ s.rxCount <;> simp [State.abort, h]

@[simp] theorem pushHold_withEarlierOutputs (d : Byte) :
    (s.withEarlierOutputs rs ws es).pushHold d =
      (s.pushHold d).withEarlierOutputs rs ws es := by
  rcases h : s.rxHold with _ | ⟨first, _ | ⟨second, more⟩⟩ <;> simp [State.pushHold, h]

@[simp] theorem accept_withEarlierOutputs (d : Byte) :
    (s.withEarlierOutputs rs ws es).accept d = (s.accept d).withEarlierOutputs rs ws es := by
  by_cases h : s.rxCount = s.cfg.rxMax <;> simp [State.accept, h]

@[simp] theorem checkCrc_withEarlierOutputs (first second : Byte) :
    (s.withEarlierOutputs rs ws es).checkCrc first second =
      (s.checkCrc first second).withEarlierOutputs rs ws es := by
  by_cases h : joinCrc s.cfg.crcOrder first second = s.rxCrc <;> simp [checkCrc_eq, h]

@[simp] theorem huntByte_withEarlierOutputs (b : Byte) :
    (s.withEarlierOutputs rs ws es).huntByte b =
      (s.huntByte b).withEarlierOutputs rs ws es := by
  by_cases h : b = s.cfg.flag <;> simp [State.huntByte, h]

@[simp] theorem escByte_withEarlierOutputs (b : Byte) :
    (s.withEarlierOutputs rs ws es).escByte b = (s.escByte b).withEarlierOutputs rs ws es := by
  cases h : pairs s.cfg b <;> simp [State.escByte, h]

@[simp] theorem endFrame_withEarlierOutputs :
    (s.withEarlierOutputs rs ws es).endFrame =
      s.endFrame.map (·.withEarlierOutputs rs ws es) := by
  by_cases h0 : s.rxCount = 0
  · simp [State.endFrame, h0]
  by_cases h1 : s.rxCount = 1
  · simp [State.endFrame, h1]
  rcases h : s.rxHold with _ | ⟨first, _ | ⟨second, more⟩⟩ <;> simp [State.endFrame, h0, h1, h]

@[simp] theorem dataByte_withEarlierOutputs (b : Byte) :
    (s.withEarlierOutputs rs ws es).dataByte b =
      (s.dataByte b).map (·.withEarlierOutputs rs ws es) := by
  unfold State.dataByte
  rw [withEarlierOutputs_cfg]
  split
  · exact endFrame_withEarlierOutputs s rs ws es
  · split <;> simp

@[simp] theorem receive_withEarlierOutputs (b : Byte) :
    (s.withEarlierOutputs rs ws es).receive b =
      (s.receive b).map (·.withEarlierOutputs rs ws es) := by
  cases h : s.rxState <;> simp [State.receive, h]

/-! ## Commands and the step -/

theorem exec_withEarlierOutputs (i : Instr) :
    exec i (s.withEarlierOutputs rs ws es) =
      mapNext (·.withEarlierOutputs rs ws es) (exec i s) := by
  cases i with
  | nop => simp [exec, execNop]
  | reset mask => simp [exec, execReset]
  | query sel => simp [exec, execQuery]
  | crcInit => simp [exec, execCrcInit]
  | crcLoad v => simp [exec, execCrcLoad]
  | crcUpdate b => simp [exec, execCrcUpdate]
  | crcRead => simp [exec, execCrcRead]
  | txStart => cases h : s.txState <;> simp [exec, execTxStart, h]
  | txData b => cases h : s.txState <;> simp [exec, execTxData, h]
  | txEnd => cases h : s.txState <;> simp [exec, execTxEnd, h]
  | rxByte b => cases h : s.receive b <;> simp [exec, execRxByte, h]

theorem step_withEarlierOutputs :
    step (s.withEarlierOutputs rs ws es) =
      mapNext (·.withEarlierOutputs rs ws es) (step s) := by
  set t := s.withEarlierOutputs rs ws es
  cases hwf : s.cfg.wellFormed with
  | false => rw [step_of_illFormed hwf, step_of_illFormed (s := t) hwf, mapNext_refused]
  | true =>
    rcases hi : s.inputs with _ | ⟨_ | _, rest⟩
    case nil => rw [step_of_noInput hwf hi, step_of_noInput (s := t) hwf hi, mapNext_next]
    case cons.assertReset =>
      rw [step_of_assertReset hwf hi, step_of_assertReset (s := t) hwf hi]
      rfl
    case cons.word w =>
      cases hd : decode w with
      | ok i =>
        rw [step_of_legalWord hwf hi hd, step_of_legalWord (s := t) hwf hi hd]
        exact exec_withEarlierOutputs { s with inputs := rest } rs ws es i
      | error e =>
        rw [step_of_illegalWord hwf hi hd, step_of_illegalWord (s := t) hwf hi hd]
        exact congrArg _ (respond_withEarlierOutputs { s with inputs := rest } rs ws es _ _)

end

/-- Settles O58: a step commutes with putting earlier outputs before those of the state. -/
theorem outputsAreNeverRead : Obligations.OutputsAreNeverRead := by
  intro s responses wire sink
  refine ⟨fun t h => ?_, fun r h => ?_⟩
  · rw [step_withEarlierOutputs, h, mapNext_next]
  · rw [step_withEarlierOutputs, h, mapNext_refused]

end Sys2Proof.Machine
end

section
/-! R70 to R72, R78: the fields of an encoded command decode to the command. -/

namespace Sys2Proof.Laws

open Sys2Proof

/-- An operand avoids the must-be-zero bits of its form (R71, R78). -/
theorem operand_mustBeZero (i : Instr) : i.operand &&& i.opcode.form.mustBeZero = 0 := by
  cases i with
  | reset mask => exact mask_operand_mustBeZero mask
  | query sel => exact sel_operand_mustBeZero sel
  | crcLoad v => exact BitVec.and_zero
  | crcUpdate b | txData b | rxByte b => exact byte_operand_mustBeZero b
  | nop | crcInit | crcRead | txStart | txEnd => rfl

/-- A command's operand field reads back as its operand (R71, R78). -/
theorem command_operand (i : Instr) : i.opcode.command i.operand = i := by
  cases i with
  | reset | query | crcUpdate | txData | rxByte =>
    simp [Instr.opcode, Instr.operand, Opcode.command, BitVec.extractLsb'_setWidth_of_le,
      BitVec.extractLsb'_eq_self]
  | crcLoad | nop | crcInit | crcRead | txStart | txEnd => rfl

/-- Decoding a word whose three checks of R73 pass gives its row's command. -/
theorem decode_eq_ok {w : Word} {o : Opcode} (hop : opcodeOf (opField w) = some o)
    (hrsv : rsvField w = 0) (hopd : opdField w &&& o.form.mustBeZero = 0) :
    decode w = .ok (o.command (opdField w)) := by
  simp [decode, hop, hrsv, hopd]

@[simp] theorem decode_encode (i : Instr) : decode (encode i) = .ok i := by
  have hop : opcodeOf (opField (encode i)) = some i.opcode := by
    rw [opField_encode, opcodeOf_code]
  have hopd : opdField (encode i) &&& i.opcode.form.mustBeZero = 0 := by
    rw [opdField_encode, operand_mustBeZero]
  rw [decode_eq_ok hop (rsvField_encode i) hopd, opdField_encode, command_operand]

end Sys2Proof.Laws
end

section
/-! R34, R30, R56: the elements after reset, and the step on a legal word. -/

namespace Sys2Proof.Machine

/-- Settles O12: each element of `State.resetWith` is its value of R34. -/
theorem elementsAfterReset : Obligations.ElementsAfterReset := fun p =>
  ⟨State.resetWith_crcAcc p, State.resetWith_txState p, State.resetWith_txCrc p,
    State.resetWith_rxState p, State.resetWith_rxCrc p, State.resetWith_rxCount p,
    State.resetWith_rxHold p⟩

/-- A word of the opcode table that decodes is a legal command word. -/
theorem decode_tableWord {nbits w : Nat} {i : Instr} (h : decodeTableWord nbits w = some i) :
    decode (tableWord nbits w) = .ok i := by
  unfold decodeTableWord at h
  split at h
  · cases hd : decode (tableWord nbits w) with
    | ok j => simpa [hd, Except.toOption] using h
    | error e => simp [hd, Except.toOption] at h
  · cases h

/-- Settles O8: both clauses are the step's equation for a legal word; taking a presented word off
the port gives back the state it was presented to. -/
theorem stepRunsTheDecodedCommand : Obligations.StepRunsTheDecodedCommand := by
  refine ⟨fun s w rest i hwf hi hd => step_of_legalWord hwf hi hd, fun s w i hwf _ hd => ?_⟩
  exact step_of_legalWord (s := s.withFetchWord 32 w) hwf (State.presentWord_inputs s _)
    (decode_tableWord hd)

end Sys2Proof.Machine
end

section
/-! R20, R61: what a TX command and a received byte leave unchanged. A frame is an equation: the
state after is the state before with some fields of the state after, so that each field outside
the frame is unchanged by `congrArg`. -/

namespace Sys2Proof.Machine

/-- `s` with the RX elements and the sink events of `t`: all that a received byte may change. -/
def State.withRxOf (s t : State) : State :=
  { s with
    rxState := t.rxState
    rxCrc := t.rxCrc
    rxCount := t.rxCount
    rxHold := t.rxHold
    sink := t.sink }

/-- `s` with `TX_STATE`, the transport and the responses of `t`: all that the end of a TX command
may change. -/
def State.withSendingOf (s t : State) : State :=
  { s with
    txState := t.txState
    answers := t.answers
    offers := t.offers
    responses := t.responses
    wire := t.wire }

/-! ## Sending (R131) -/

section
variable (s : State) (bytes : List Byte)

theorem sendAndRespond_frame :
    s.sendAndRespond bytes = s.withSendingOf (s.sendAndRespond bytes) := by
  rcases sendAndRespond_cases s bytes with ⟨_, h⟩ | ⟨k, _, h⟩
  · rw [h]; rfl
  · rw [h]; rfl

@[simp] theorem sendAndRespond_cfg : (s.sendAndRespond bytes).cfg = s.cfg :=
  (congrArg State.cfg (sendAndRespond_frame s bytes)).trans rfl
@[simp] theorem sendAndRespond_crcAcc : (s.sendAndRespond bytes).crcAcc = s.crcAcc :=
  (congrArg State.crcAcc (sendAndRespond_frame s bytes)).trans rfl
@[simp] theorem sendAndRespond_txCrc : (s.sendAndRespond bytes).txCrc = s.txCrc :=
  (congrArg State.txCrc (sendAndRespond_frame s bytes)).trans rfl
@[simp] theorem sendAndRespond_rxState : (s.sendAndRespond bytes).rxState = s.rxState :=
  (congrArg State.rxState (sendAndRespond_frame s bytes)).trans rfl
@[simp] theorem sendAndRespond_rxCrc : (s.sendAndRespond bytes).rxCrc = s.rxCrc :=
  (congrArg State.rxCrc (sendAndRespond_frame s bytes)).trans rfl
@[simp] theorem sendAndRespond_rxCount : (s.sendAndRespond bytes).rxCount = s.rxCount :=
  (congrArg State.rxCount (sendAndRespond_frame s bytes)).trans rfl
@[simp] theorem sendAndRespond_rxHold : (s.sendAndRespond bytes).rxHold = s.rxHold :=
  (congrArg State.rxHold (sendAndRespond_frame s bytes)).trans rfl

/-- Sending leaves `TX_STATE` alone unless the transport fails, and then says so (R131). -/
theorem sendAndRespond_txState_or_failure :
    (s.sendAndRespond bytes).txState = s.txState ∨
      (s.sendAndRespond bytes).responses = s.responses ++ [⟨.transportWriteFailure, 0⟩] := by
  rcases sendAndRespond_cases s bytes with ⟨_, h⟩ | ⟨k, _, h⟩
  · exact .inl (by rw [h]; rfl)
  · exact .inr (by rw [h]; rfl)

end

/-! ## Receiving (R162 to R168) -/

theorem withRxOf_trans {s t u : State} (hst : t = s.withRxOf t) (htu : u = t.withRxOf u) :
    u = s.withRxOf u := by
  rw [htu, hst]; rfl

section
variable (s : State)

theorem openFrame_frame : s.openFrame = s.withRxOf s.openFrame := rfl

theorem abort_frame (reason : Reason) : s.abort reason = s.withRxOf (s.abort reason) := by
  rw [abort_eq]; rfl

theorem huntByte_frame (b : Byte) : s.huntByte b = s.withRxOf (s.huntByte b) := by
  unfold State.huntByte
  split
  · exact openFrame_frame s
  · rfl

theorem accept_frame (d : Byte) : s.accept d = s.withRxOf (s.accept d) := by
  rcases accept_cases s d with ⟨_, h⟩ | ⟨_, h⟩
  · rw [h]; exact abort_frame s .overflow
  · rcases pushHold_cases s d with ⟨_, hp⟩ | ⟨_, _, _, _, hp⟩
    · rw [h, hp]; rfl
    · rw [h, hp]; rfl

theorem checkCrc_frame (first second : Byte) :
    s.checkCrc first second = s.withRxOf (s.checkCrc first second) := by
  rw [checkCrc_eq]
  split
  · rfl
  · rfl

end

theorem endFrame_frame {s t : State} (h : s.endFrame = some t) : t = s.withRxOf t := by
  rcases endFrame_cases h with ⟨_, rfl⟩ | ⟨_, rfl⟩ | ⟨_, first, second, _, _, rfl⟩
  · exact openFrame_frame s
  · rfl
  · exact withRxOf_trans (checkCrc_frame s first second) (openFrame_frame _)

/-- A received byte changes the RX elements and the sink events alone (R61, R168). -/
theorem receive_frame {s t : State} {b : Byte} (h : s.receive b = some t) :
    t = s.withRxOf t := by
  rcases receive_cases h with ⟨_, rfl⟩ | ⟨_, _, hend⟩ | ⟨_, _, _, rfl⟩ | ⟨_, _, _, rfl⟩ |
    ⟨_, _, rfl⟩ | ⟨_, _, rfl⟩
  · exact huntByte_frame s b
  · exact endFrame_frame hend
  · rfl
  · exact accept_frame s b
  · exact accept_frame s (b ^^^ s.cfg.xmask)
  · exact withRxOf_trans (abort_frame s .badEscape) (huntByte_frame _ b)

/-- `RX.BYTE` completes as the received byte does, and responds `OK`. -/
theorem exec_rxByte_next {s t : State} {b : Byte} (h : exec (.rxByte b) s = .next t) :
    ∃ u, s.receive b = some u ∧ t = u.respond .ok 0 := by
  change execRxByte b s = .next t at h
  cases hr : s.receive b with
  | some u => exact ⟨u, rfl, by simpa [execRxByte, hr] using h.symm⟩
  | none => simp [execRxByte, hr] at h

end Sys2Proof.Machine
end

section
/-! R20, the column "written by", R29 and R61: what each command leaves unchanged. -/

namespace Sys2Proof.Machine

/-- Everything `RESET` does before its response (R201): the selected units take their reset values
and the others keep theirs. -/
theorem resetUnits_eq (s : State) (mask : BitVec 3) :
    s.resetUnits mask = { s with
      crcAcc := if selectsCrc mask then s.cfg.seed else s.crcAcc
      txState := if selectsTx mask then .idle else s.txState
      txCrc := if selectsTx mask then s.cfg.seed else s.txCrc
      rxState := if selectsRx mask then .hunt else s.rxState
      rxCrc := if selectsRx mask then s.cfg.seed else s.rxCrc
      rxCount := if selectsRx mask then 0 else s.rxCount
      rxHold := if selectsRx mask then [] else s.rxHold } := by
  unfold State.resetUnits
  cases selectsCrc mask <;> cases selectsTx mask <;> cases selectsRx mask <;> rfl

section
variable {s t : State}

/-! ## What a TX command can do (R132 to R134) -/

theorem exec_txStart_next (h : exec .txStart s = .next t) :
    (s.txState = .inFrame ∧ t = s.respond .protocolViolation 0) ∨
      (s.txState = .idle ∧
        t = ((s.setTxCrc s.cfg.seed).setTxState .inFrame).sendAndRespond [s.cfg.flag]) := by
  cases h
  cases hs : s.txState with
  | inFrame => exact .inl ⟨rfl, rfl⟩
  | idle => exact .inr ⟨rfl, rfl⟩

theorem exec_txData_next {b : Byte} (h : exec (.txData b) s = .next t) :
    (s.txState = .idle ∧ t = s.respond .protocolViolation 0) ∨
      (s.txState = .inFrame ∧
        t = (s.setTxCrc (crcStep s.cfg.poly s.txCrc b)).sendAndRespond (escape s.cfg b)) := by
  cases h
  cases hs : s.txState with
  | idle => exact .inl ⟨rfl, rfl⟩
  | inFrame => exact .inr ⟨rfl, rfl⟩

theorem exec_txEnd_next (h : exec .txEnd s = .next t) :
    (s.txState = .idle ∧ t = s.respond .protocolViolation 0) ∨
      (s.txState = .inFrame ∧
        t = (s.setTxState .idle).sendAndRespond (closing s.cfg s.txCrc)) := by
  cases h
  cases hs : s.txState with
  | idle => exact .inl ⟨rfl, rfl⟩
  | inFrame => exact .inr ⟨rfl, rfl⟩

/-! ## The commands of one unit leave the other units alone (R61) -/

theorem exec_crc_frame {i : Instr} (hu : unitOf i = some .crc) (h : exec i s = .next t) :
    sameConfig s t ∧ sameTx s t ∧ sameRx s t := by
  cases i with
  | crcInit | crcLoad | crcUpdate | crcRead => cases h; simp [sameConfig, sameTx, sameRx]
  | nop | reset | query | txStart | txData | txEnd | rxByte => cases hu

theorem exec_tx_frame {i : Instr} (hu : unitOf i = some .tx) (h : exec i s = .next t) :
    sameConfig s t ∧ sameCrcUnit s t ∧ sameRx s t := by
  cases i with
  | txStart =>
    rcases exec_txStart_next h with ⟨_, rfl⟩ | ⟨_, rfl⟩
    · simp [sameConfig, sameCrcUnit, sameRx]
    · simp [sameConfig, sameCrcUnit, sameRx]
  | txData b =>
    rcases exec_txData_next h with ⟨_, rfl⟩ | ⟨_, rfl⟩
    · simp [sameConfig, sameCrcUnit, sameRx]
    · simp [sameConfig, sameCrcUnit, sameRx]
  | txEnd =>
    rcases exec_txEnd_next h with ⟨_, rfl⟩ | ⟨_, rfl⟩
    · simp [sameConfig, sameCrcUnit, sameRx]
    · simp [sameConfig, sameCrcUnit, sameRx]
  | nop | reset | query | crcInit | crcLoad | crcUpdate | crcRead | rxByte => cases hu

theorem exec_rx_frame {i : Instr} (hu : unitOf i = some .rx) (h : exec i s = .next t) :
    sameConfig s t ∧ sameCrcUnit s t ∧ sameTx s t := by
  cases i with
  | rxByte b =>
    obtain ⟨u, hu, rfl⟩ := exec_rxByte_next h
    rw [receive_frame hu]
    exact ⟨rfl, rfl, rfl, rfl⟩
  | nop | reset | query | crcInit | crcLoad | crcUpdate | crcRead | txStart | txData | txEnd =>
    cases hu

/-! ## No command changes the configuration (R29) -/

theorem exec_sameConfig {i : Instr} (h : exec i s = .next t) : sameConfig s t := by
  cases hu : unitOf i with
  | some unit =>
    cases unit with
    | crc => exact (exec_crc_frame hu h).1
    | tx => exact (exec_tx_frame hu h).1
    | rx => exact (exec_rx_frame hu h).1
  | none =>
    cases i with
    | nop | query => cases h; rfl
    | reset mask => cases h; simp [sameConfig, resetUnits_eq]
    | crcInit | crcLoad | crcUpdate | crcRead | txStart | txData | txEnd | rxByte => cases hu

/-! ## Each element is unchanged or its writer ran -/

theorem exec_crcAcc_or_writer {i : Instr} (h : exec i s = .next t) :
    t.crcAcc = s.crcAcc ∨ i = .crcInit ∨ (∃ v, i = .crcLoad v) ∨ (∃ b, i = .crcUpdate b) ∨
      ∃ mask, i = .reset mask ∧ selectsCrc mask = true := by
  cases i with
  | nop | query | crcRead => cases h; exact .inl rfl
  | reset mask =>
    cases h
    cases hm : selectsCrc mask with
    | false => exact .inl (by simp [resetUnits_eq, hm])
    | true => simp [hm]
  | crcInit | crcLoad | crcUpdate => simp
  | txStart | txData | txEnd => exact .inl (exec_tx_frame rfl h).2.1
  | rxByte => exact .inl (exec_rx_frame rfl h).2.1

theorem exec_txState_or_writer {i : Instr} (h : exec i s = .next t) :
    t.txState = s.txState ∨ i = .txStart ∨ i = .txEnd ∨
      (∃ b, i = .txData b ∧ t.responses = s.responses ++ [⟨.transportWriteFailure, 0⟩]) ∨
      ∃ mask, i = .reset mask ∧ selectsTx mask = true := by
  cases i with
  | nop | query => cases h; exact .inl rfl
  | reset mask =>
    cases h
    cases hm : selectsTx mask with
    | false => exact .inl (by simp [resetUnits_eq, hm])
    | true => simp [hm]
  | crcInit | crcLoad | crcUpdate | crcRead => exact .inl (exec_crc_frame rfl h).2.1.1
  | txStart | txEnd => simp
  | txData b =>
    rcases exec_txData_next h with ⟨_, rfl⟩ | ⟨_, rfl⟩
    · exact .inl rfl
    · rcases sendAndRespond_txState_or_failure _ _ with kept | failed
      · exact .inl kept
      · exact .inr (.inr (.inr (.inl ⟨b, rfl, failed⟩)))
  | rxByte => exact .inl (exec_rx_frame rfl h).2.2.1

theorem exec_txCrc_or_writer {i : Instr} (h : exec i s = .next t) :
    t.txCrc = s.txCrc ∨ i = .txStart ∨ (∃ b, i = .txData b) ∨
      ∃ mask, i = .reset mask ∧ selectsTx mask = true := by
  cases i with
  | nop | query => cases h; exact .inl rfl
  | reset mask =>
    cases h
    cases hm : selectsTx mask with
    | false => exact .inl (by simp [resetUnits_eq, hm])
    | true => simp [hm]
  | crcInit | crcLoad | crcUpdate | crcRead => exact .inl (exec_crc_frame rfl h).2.1.2
  | txStart | txData => simp
  | txEnd => rcases exec_txEnd_next h with ⟨_, rfl⟩ | ⟨_, rfl⟩ <;> simp
  | rxByte => exact .inl (exec_rx_frame rfl h).2.2.2

theorem exec_sameRx_or_writer {i : Instr} (h : exec i s = .next t) :
    sameRx s t ∨ (∃ b, i = .rxByte b) ∨ ∃ mask, i = .reset mask ∧ selectsRx mask = true := by
  cases i with
  | nop | query => cases h; simp [sameRx]
  | reset mask =>
    cases h
    cases hm : selectsRx mask with
    | false => exact .inl (by simp [sameRx, resetUnits_eq, hm])
    | true => simp [hm]
  | crcInit | crcLoad | crcUpdate | crcRead => exact .inl (exec_crc_frame rfl h).2.2
  | txStart | txData | txEnd => exact .inl (exec_tx_frame rfl h).2.2
  | rxByte => simp

end

/-- Settles O53: each clause is the element's "unchanged or its writer ran". -/
theorem elementsHaveOnlyTheirWriters : Obligations.ElementsHaveOnlyTheirWriters := fun _ _ _ h =>
  ⟨(exec_crcAcc_or_writer h).resolve_left, (exec_txState_or_writer h).resolve_left,
    (exec_txCrc_or_writer h).resolve_left, (exec_sameRx_or_writer h).resolve_left⟩

end Sys2Proof.Machine
end

section
/-! R35: every step keeps the invariants. Only a received byte, a reset of the RX unit and an
assertion of reset touch what the invariants speak of. -/

namespace Sys2Proof.Machine

section
variable {s t : State}

/-- A cleared frame meets the invariants in every `RX_STATE`. -/
theorem State.Inv.of_clear (hcount : s.rxCount = 0) (hhold : s.rxHold = [])
    (hcrc : s.rxCrc = s.cfg.seed) : s.Inv where
  hold_length := by simp [hcount, hhold]
  count_le_max := by simp [hcount]
  hunt_is_clear := fun _ => ⟨hcount, hhold, hcrc⟩
  crc_is_seed := fun _ => hcrc

/-- The invariants speak of the RX elements and the configuration alone. -/
theorem State.Inv.of_sameRx (inv : s.Inv) (hcfg : sameConfig s t) (hrx : sameRx s t) : t.Inv := by
  obtain ⟨hstate, hcrc, hcount, hhold⟩ := hrx
  obtain ⟨hlength, hmax, hhunt, hseed⟩ := inv
  constructor
  · rwa [hhold, hcount]
  · rwa [hcount, hcfg]
  · rwa [hstate, hcount, hhold, hcrc, hcfg]
  · rwa [hcount, hcrc, hcfg]

/-! ## The RX procedures -/

theorem openFrame_inv (s : State) : s.openFrame.Inv := .of_clear rfl rfl rfl

theorem abort_inv (s : State) (reason : Reason) : (s.abort reason).Inv := by
  rw [abort_eq]
  exact .of_clear rfl rfl rfl

theorem huntByte_inv (inv : s.Inv) (b : Byte) : (s.huntByte b).Inv := by
  unfold State.huntByte
  split
  · exact openFrame_inv s
  · exact inv

/-- `ESC` in an open frame changes `RX_STATE` alone, and not to `RX_HUNT` (R166). -/
theorem setRxState_esc_inv (inv : s.Inv) : (s.setRxState .esc).Inv where
  hold_length := inv.hold_length
  count_le_max := inv.count_le_max
  hunt_is_clear := by simp
  crc_is_seed := inv.crc_is_seed

/-- `ACCEPT` (R163): while fewer than two bytes are held, the holdback grows with the count and the
CRC stays; from then on it holds two bytes and the count is past 2. -/
theorem accept_inv (inv : s.Inv) (d : Byte) : (s.accept d).Inv := by
  have hlength := inv.hold_length
  have hmax := inv.count_le_max
  rcases accept_cases s d with ⟨_, heq⟩ | ⟨hne, heq⟩
  · rw [heq]
    exact abort_inv s .overflow
  have hroom : s.rxCount + 1 ≤ s.cfg.rxMax := by omega
  rcases pushHold_cases s d with ⟨hshort, hpush⟩ | ⟨first, next, more, hfull, hpush⟩
  · have hfew : s.rxCount < 2 := by omega
    have hgrown : (s.rxHold ++ [d]).length = min (s.rxCount + 1) 2 := by
      rw [List.length_append, List.length_singleton]
      omega
    rw [heq, hpush]
    exact ⟨hgrown, hroom, by simp, fun _ => inv.crc_is_seed hfew.le⟩
  · have htwo : 2 ≤ s.rxHold.length := by simp [hfull]
    have hpast : 2 < s.rxCount + 1 := by omega
    have hheld : [next, d].length = min (s.rxCount + 1) 2 := (min_eq_right hpast.le).symm
    rw [heq, hpush]
    exact ⟨hheld, hroom, by simp, fun hlow => absurd hlow hpast.not_ge⟩

theorem endFrame_inv (h : s.endFrame = some t) : t.Inv := by
  rcases endFrame_cases h with ⟨_, rfl⟩ | ⟨_, rfl⟩ | ⟨_, _, _, _, _, rfl⟩
  · exact openFrame_inv _
  · exact openFrame_inv _
  · exact openFrame_inv _

theorem receive_inv {b : Byte} (inv : s.Inv) (h : s.receive b = some t) : t.Inv := by
  rcases receive_cases h with ⟨_, rfl⟩ | ⟨_, _, hend⟩ | ⟨_, _, _, rfl⟩ | ⟨_, _, _, rfl⟩ |
    ⟨_, _, rfl⟩ | ⟨_, _, rfl⟩
  · exact huntByte_inv inv b
  · exact endFrame_inv hend
  · exact setRxState_esc_inv inv
  · exact accept_inv inv b
  · exact accept_inv inv (b ^^^ s.cfg.xmask)
  · exact huntByte_inv (abort_inv s .badEscape) b

/-! ## Commands and the step -/

theorem respond_inv (inv : s.Inv) (st : Status) (d : Half) : (s.respond st d).Inv :=
  inv.of_sameRx rfl ⟨rfl, rfl, rfl, rfl⟩

theorem exec_inv {i : Instr} (inv : s.Inv) (h : exec i s = .next t) : t.Inv := by
  rcases exec_sameRx_or_writer h with same | ⟨b, rfl⟩ | ⟨mask, rfl, hmask⟩
  · exact inv.of_sameRx (exec_sameConfig h) same
  · obtain ⟨u, hu, rfl⟩ := exec_rxByte_next h
    exact respond_inv (receive_inv inv hu) .ok 0
  · cases h
    refine respond_inv (.of_clear ?_ ?_ ?_) .ok 0 <;> simp [resetUnits_eq, hmask]

end

/-- Settles O52, by the cases of the step. -/
theorem everyStepKeepsTheInvariants : Obligations.EveryStepKeepsTheInvariants := by
  intro s t inv h
  have taken (rest : List Input) : State.Inv { s with inputs := rest } :=
    inv.of_sameRx rfl ⟨rfl, rfl, rfl, rfl⟩
  obtain ⟨-, ⟨-, rfl⟩ | ⟨rest, ⟨-, rfl⟩ | ⟨w, -, ⟨i, -, hexec⟩ | ⟨e, -, rfl⟩⟩⟩⟩ := step_cases h
  case inl => exact inv
  case inr.inl => exact .of_clear rfl rfl rfl
  case inr.inr.inl => exact exec_inv (taken rest) hexec
  case inr.inr.inr => exact respond_inv (taken rest) .illegalCommand 0

end Sys2Proof.Machine
end

section
/-! R30, R58: no command reads the inputs still to come, so every operation commutes with replacing
them; a step's command is the same whatever is presented after it. -/

namespace Sys2Proof.Machine

/-- The same state with other inputs still to come. -/
def State.withInputs (s : State) (l : List Input) : State := { s with inputs := l }

section
variable (s : State) (l : List Input)

/-! ## What the operations read is unchanged, and what they write commutes -/

@[simp] theorem withInputs_cfg : (s.withInputs l).cfg = s.cfg := rfl
@[simp] theorem withInputs_txState : (s.withInputs l).txState = s.txState := rfl
@[simp] theorem withInputs_txCrc : (s.withInputs l).txCrc = s.txCrc := rfl
@[simp] theorem withInputs_rxState : (s.withInputs l).rxState = s.rxState := rfl
@[simp] theorem withInputs_rxCrc : (s.withInputs l).rxCrc = s.rxCrc := rfl
@[simp] theorem withInputs_rxCount : (s.withInputs l).rxCount = s.rxCount := rfl
@[simp] theorem withInputs_rxHold : (s.withInputs l).rxHold = s.rxHold := rfl
@[simp] theorem withInputs_inputs : (s.withInputs l).inputs = l := rfl
@[simp] theorem withInputs_withInputs (l' : List Input) :
    (s.withInputs l).withInputs l' = s.withInputs l' := rfl
@[simp] theorem withInputs_self : s.withInputs s.inputs = s := rfl

@[simp] theorem respond_withInputs (st : Status) (d : Half) :
    (s.withInputs l).respond st d = (s.respond st d).withInputs l := rfl
@[simp] theorem sinkDone_withInputs (valid : Bool) (reason : Reason) :
    (s.withInputs l).sinkDone valid reason = (s.sinkDone valid reason).withInputs l := rfl
@[simp] theorem openFrame_withInputs :
    (s.withInputs l).openFrame = s.openFrame.withInputs l := rfl
@[simp] theorem setTxState_withInputs (v : TxState) :
    (s.withInputs l).setTxState v = (s.setTxState v).withInputs l := rfl
@[simp] theorem setTxCrc_withInputs (v : Half) :
    (s.withInputs l).setTxCrc v = (s.setTxCrc v).withInputs l := rfl

/-! ## Sending and receiving -/

@[simp] theorem sendAndRespond_withInputs (bytes : List Byte) :
    (s.withInputs l).sendAndRespond bytes = (s.sendAndRespond bytes).withInputs l := by
  unfold State.sendAndRespond
  rcases accepts_or_refuses s bytes.length with h | ⟨k, h⟩
  · rw [emitAll_accepted bytes s h, emitAll_accepted bytes (s.withInputs l) h]
    rfl
  · rw [emitAll_refused bytes s k h, emitAll_refused bytes (s.withInputs l) k h]
    rfl

theorem abort_withInputs (reason : Reason) :
    (s.withInputs l).abort reason = (s.abort reason).withInputs l := by
  rw [abort_eq, abort_eq]
  rfl

theorem huntByte_withInputs (b : Byte) :
    (s.withInputs l).huntByte b = (s.huntByte b).withInputs l := by
  by_cases h : b = s.cfg.flag <;> simp [State.huntByte, h]

theorem pushHold_withInputs (d : Byte) :
    (s.withInputs l).pushHold d = (s.pushHold d).withInputs l := by
  simp only [State.pushHold, withInputs_rxHold]
  split
  · rfl
  · rfl

theorem accept_withInputs (d : Byte) :
    (s.withInputs l).accept d = (s.accept d).withInputs l := by
  simp only [State.accept, withInputs_cfg, withInputs_rxCount, abort_withInputs,
    pushHold_withInputs]
  split
  · rfl
  · rfl

theorem checkCrc_withInputs (first second : Byte) :
    (s.withInputs l).checkCrc first second = (s.checkCrc first second).withInputs l := by
  by_cases h : joinCrc s.cfg.crcOrder first second = s.rxCrc <;> simp [checkCrc_eq, h]

theorem endFrame_withInputs :
    (s.withInputs l).endFrame = s.endFrame.map (State.withInputs · l) := by
  simp only [State.endFrame, withInputs_rxCount, withInputs_rxHold, checkCrc_withInputs]
  split
  · rfl
  split
  · rfl
  split
  · rfl
  · rfl

theorem dataByte_withInputs (b : Byte) :
    (s.withInputs l).dataByte b = (s.dataByte b).map (State.withInputs · l) := by
  simp only [State.dataByte, withInputs_cfg, endFrame_withInputs, accept_withInputs]
  split
  · rfl
  split
  · rfl
  · rfl

theorem escByte_withInputs (b : Byte) :
    (s.withInputs l).escByte b = (s.escByte b).withInputs l := by
  simp only [State.escByte, withInputs_cfg, accept_withInputs, abort_withInputs,
    huntByte_withInputs]
  split
  · rfl
  · rfl

theorem receive_withInputs (b : Byte) :
    (s.withInputs l).receive b = (s.receive b).map (State.withInputs · l) := by
  cases h : s.rxState with
  | hunt => simp [State.receive, h, huntByte_withInputs]
  | data => simp [State.receive, h, dataByte_withInputs]
  | esc => simp [State.receive, h, escByte_withInputs]

/-! ## Commands -/

theorem exec_withInputs (i : Instr) :
    exec i (s.withInputs l) = mapNext (State.withInputs · l) (exec i s) := by
  cases i with
  | nop | query | crcInit | crcLoad | crcUpdate | crcRead => rfl
  | reset mask =>
    simp only [exec, execReset, resetUnits_eq]
    rfl
  | txStart => cases h : s.txState <;> simp [exec, execTxStart, h]
  | txData b => cases h : s.txState <;> simp [exec, execTxData, h]
  | txEnd => cases h : s.txState <;> simp [exec, execTxEnd, h]
  | rxByte b => cases h : s.receive b <;> simp [exec, execRxByte, receive_withInputs, h]

end

/-! ## The step and the run -/

/-- A command leaves the pending inputs as they are: it is the same whatever they are. -/
theorem exec_inputs {i : Instr} {s t : State} (h : exec i s = .next t) : t.inputs = s.inputs := by
  have same : mapNext (State.withInputs · s.inputs) (exec i s) = exec i s := by
    rw [← exec_withInputs, withInputs_self]
  rw [h, mapNext_next] at same
  injection same with htaken
  rw [← htaken, withInputs_inputs]

/-- Settles O59: in every case of a step the configuration stays and the head of the inputs goes. -/
theorem stepTakesOneInputAndKeepsTheConfiguration :
    Obligations.StepTakesOneInputAndKeepsTheConfiguration := by
  refine ⟨fun s t h => ?_, fun s => step_of_noInput⟩
  obtain ⟨-, ⟨hi, rfl⟩ | ⟨rest, ⟨hi, rfl⟩ | ⟨w, hi, ⟨i, -, hexec⟩ | ⟨e, -, rfl⟩⟩⟩⟩ := step_cases h
  case inl => simp [hi]
  case inr.inl => simp [hi]
  case inr.inr.inl => exact ⟨(exec_sameConfig hexec).trans rfl, by simp [hi, exec_inputs hexec]⟩
  case inr.inr.inr => simp [hi]

section
variable {s t : State} {r : Refusal}

theorem run_succ_of_next {n : Nat} (h : step s = .next t) :
    Host.Core.run Sys2Proof.core (n + 1) s = Host.Core.run Sys2Proof.core n t := by
  have hcore : Sys2Proof.core.step s = .next t := h
  simp only [Host.Core.run, hcore]

theorem run_succ_of_refused {n : Nat} (h : step s = .refused r) :
    Host.Core.run Sys2Proof.core (n + 1) s = .refused r := by
  have hcore : Sys2Proof.core.step s = .refused r := h
  simp only [Host.Core.run, hcore]

theorem runCommands_cons_of_next {i : Instr} {rest : List Instr} (h : exec i s = .next t) :
    runCommands (i :: rest) s = runCommands rest t := by
  simp only [runCommands, h]

theorem runCommands_cons_of_refused {i : Instr} {rest : List Instr}
    (h : exec i s = .refused r) : runCommands (i :: rest) s = .refused r := by
  simp only [runCommands, h]

end

/-- Settles O60, by induction on the commands: the first step is the first command, and the command
is the same with the later words still to come as with `rest` alone. -/
theorem stepsRunTheCommandsInOrder : Obligations.StepsRunTheCommandsInOrder := by
  intro s commands rest hwf hi
  induction commands generalizing s with
  | nil =>
    have hrest : s.inputs = rest := hi
    subst hrest
    rfl
  | cons i later ih =>
    set words : List Input := later.map (fun i => .word (encode i)) ++ rest
    have first : step s = exec i (s.withInputs words) :=
      step_of_legalWord hwf hi (Laws.decode_encode i)
    have alone : exec i (s.withInputs rest) =
        mapNext (State.withInputs · rest) (exec i (s.withInputs words)) :=
      exec_withInputs (s.withInputs words) rest i
    rcases exec_next_or_brokenHoldback i (s.withInputs words) with ⟨t, ht⟩ | hrefused
    · rw [ht] at first alone
      have hwft : t.cfg.wellFormed = true := by
        rw [exec_sameConfig ht]
        exact hwf
      exact (run_succ_of_next first).trans
        ((ih t hwft (exec_inputs ht)).trans (runCommands_cons_of_next alone).symm)
    · rw [hrefused] at first alone
      exact (run_succ_of_refused first).trans (runCommands_cons_of_refused alone).symm

end Sys2Proof.Machine
end

section
/-! R61, R21: a command of a unit does the same from every state that has the same configuration and
the same elements of that unit. This is one equation, `exec_graft`: the command commutes with
grafting its unit onto another state. What it leaves alone, what it reads and what it can be
exchanged with all follow. -/

namespace Sys2Proof.Machine

/-- The two states agree on what the commands of a unit read beside the configuration: the unit's
elements and, for TX, the transport. -/
def State.agreesOn (s o : State) : BlockUnit → Prop
  | .crc => sameCrcUnit s o
  | .tx => sameTx s o ∧ sameTransport s o
  | .rx => sameRx s o

/-- `o` with the configuration and a unit's elements taken from `s` (for TX with the transport), and
with the outputs of `s` on that unit's ports put after its own. -/
def State.graft (o : State) (unit : BlockUnit) (s : State) : State :=
  match unit with
  | .crc => { o with
      cfg := s.cfg
      crcAcc := s.crcAcc
      responses := o.responses ++ s.responses }
  | .tx => { o with
      cfg := s.cfg
      txState := s.txState
      txCrc := s.txCrc
      answers := s.answers
      offers := s.offers
      responses := o.responses ++ s.responses
      wire := o.wire ++ s.wire }
  | .rx => { o.withRxOf s with
      cfg := s.cfg
      responses := o.responses ++ s.responses
      sink := o.sink ++ s.sink }

/-- The same state before it has given any output. -/
def State.silent (s : State) : State := { s with responses := [], wire := [], sink := [] }

/-! ## Grafts and agreement -/

section
variable (o s : State) (unit : BlockUnit)

@[simp] theorem graft_cfg : (o.graft unit s).cfg = s.cfg := by cases unit <;> rfl
@[simp] theorem graft_responses :
    (o.graft unit s).responses = o.responses ++ s.responses := by cases unit <;> rfl

@[simp] theorem respond_graft (st : Status) (d : Half) :
    (o.graft unit s).respond st d = o.graft unit (s.respond st d) := by
  cases unit <;> simp [State.respond, State.graft, State.withRxOf]

theorem agreesOn_refl : s.agreesOn s unit := by
  cases unit with
  | crc => rfl
  | tx => exact ⟨⟨rfl, rfl⟩, rfl, rfl⟩
  | rx => exact ⟨rfl, rfl, rfl, rfl⟩

/-- A state is the graft of any silent state that agrees with it. -/
theorem graft_silent {s o : State} {unit : BlockUnit} (hcfg : sameConfig s o)
    (hunit : s.agreesOn o unit) : o.graft unit s.silent = o := by
  cases unit with
  | crc =>
    have hacc : sameCrcUnit s o := hunit
    simp [State.graft, State.silent, ← hcfg, ← hacc]
  | tx =>
    obtain ⟨⟨hstate, hcrc⟩, hanswers, hoffers⟩ := hunit
    simp [State.graft, State.silent, ← hcfg, ← hstate, ← hcrc, ← hanswers, ← hoffers]
  | rx =>
    obtain ⟨hstate, hcrc, hcount, hhold⟩ := hunit
    simp [State.graft, State.silent, State.withRxOf, ← hcfg, ← hstate, ← hcrc, ← hcount, ← hhold]

/-- Grafting one unit leaves the others alone. -/
theorem graft_agreesOn {unit other : BlockUnit} (hne : unit ≠ other) :
    (o.graft unit s).agreesOn o other := by
  cases other with
  | crc =>
    cases unit with
    | crc => exact absurd rfl hne
    | tx | rx => rfl
  | tx =>
    cases unit with
    | tx => exact absurd rfl hne
    | crc | rx => exact ⟨⟨rfl, rfl⟩, rfl, rfl⟩
  | rx =>
    cases unit with
    | rx => exact absurd rfl hne
    | crc | tx => exact ⟨rfl, rfl, rfl, rfl⟩

theorem agreesOn_symm {s o : State} {unit : BlockUnit} (h : s.agreesOn o unit) :
    o.agreesOn s unit := by
  cases unit with
  | crc => exact Eq.symm h
  | tx =>
    obtain ⟨⟨hstate, hcrc⟩, hanswers, hoffers⟩ := h
    exact ⟨⟨hstate.symm, hcrc.symm⟩, hanswers.symm, hoffers.symm⟩
  | rx =>
    obtain ⟨hstate, hcrc, hcount, hhold⟩ := h
    exact ⟨hstate.symm, hcrc.symm, hcount.symm, hhold.symm⟩

/-- Grafts of different units can be exchanged, up to the order of the responses. -/
theorem graft_graft_comm {a b : BlockUnit} (hne : a ≠ b) (d e : State) (hcfg : d.cfg = e.cfg) :
    (o.graft b e).graft a d = { (o.graft a d).graft b e with
      responses := o.responses ++ e.responses ++ d.responses } := by
  cases a with
  | crc =>
    cases b with
    | crc => exact absurd rfl hne
    | tx | rx => simp [State.graft, State.withRxOf, hcfg]
  | tx =>
    cases b with
    | tx => exact absurd rfl hne
    | crc | rx => simp [State.graft, State.withRxOf, hcfg]
  | rx =>
    cases b with
    | rx => exact absurd rfl hne
    | crc | tx => simp [State.graft, State.withRxOf, hcfg]

/-! ## The CRC unit and TX -/

@[simp] theorem graft_crc_crcAcc : (o.graft .crc s).crcAcc = s.crcAcc := rfl
@[simp] theorem setCrcAcc_graft (v : Half) :
    (o.graft .crc s).setCrcAcc v = o.graft .crc (s.setCrcAcc v) := rfl
@[simp] theorem graft_tx_txState : (o.graft .tx s).txState = s.txState := rfl
@[simp] theorem graft_tx_txCrc : (o.graft .tx s).txCrc = s.txCrc := rfl
@[simp] theorem setTxState_graft (v : TxState) :
    (o.graft .tx s).setTxState v = o.graft .tx (s.setTxState v) := rfl
@[simp] theorem setTxCrc_graft (v : Half) :
    (o.graft .tx s).setTxCrc v = o.graft .tx (s.setTxCrc v) := rfl

/-- The transport answers the grafted unit as it answers the unit, so the same bytes go out. -/
@[simp] theorem sendAndRespond_graft (bytes : List Byte) :
    (o.graft .tx s).sendAndRespond bytes = o.graft .tx (s.sendAndRespond bytes) := by
  unfold State.sendAndRespond
  rcases accepts_or_refuses s bytes.length with h | ⟨k, h⟩
  · rw [emitAll_accepted bytes s h, emitAll_accepted bytes (o.graft .tx s) h]
    simp [State.afterAccepted, State.respond, State.graft]
  · rw [emitAll_refused bytes s k h, emitAll_refused bytes (o.graft .tx s) k h]
    simp [State.afterRefused, State.setTxState, State.respond, State.graft]

/-! ## RX -/

@[simp] theorem graft_rx_rxState : (o.graft .rx s).rxState = s.rxState := rfl
@[simp] theorem graft_rx_rxCrc : (o.graft .rx s).rxCrc = s.rxCrc := rfl
@[simp] theorem graft_rx_rxCount : (o.graft .rx s).rxCount = s.rxCount := rfl
@[simp] theorem graft_rx_rxHold : (o.graft .rx s).rxHold = s.rxHold := rfl
@[simp] theorem setRxState_graft (v : RxState) :
    (o.graft .rx s).setRxState v = o.graft .rx (s.setRxState v) := rfl
@[simp] theorem setRxCrc_graft (v : Half) :
    (o.graft .rx s).setRxCrc v = o.graft .rx (s.setRxCrc v) := rfl
@[simp] theorem setRxCount_graft (v : Nat) :
    (o.graft .rx s).setRxCount v = o.graft .rx (s.setRxCount v) := rfl
@[simp] theorem setRxHold_graft (v : List Byte) :
    (o.graft .rx s).setRxHold v = o.graft .rx (s.setRxHold v) := rfl
@[simp] theorem openFrame_graft : (o.graft .rx s).openFrame = o.graft .rx s.openFrame := rfl

@[simp] theorem sinkWrite_graft (b : Byte) :
    (o.graft .rx s).sinkWrite b = o.graft .rx (s.sinkWrite b) := by
  simp [State.sinkWrite, State.graft, State.withRxOf]

@[simp] theorem sinkDone_graft (valid : Bool) (reason : Reason) :
    (o.graft .rx s).sinkDone valid reason = o.graft .rx (s.sinkDone valid reason) := by
  simp [State.sinkDone, State.graft, State.withRxOf]

@[simp] theorem abort_graft (reason : Reason) :
    (o.graft .rx s).abort reason = o.graft .rx (s.abort reason) := by
  simp [abort_eq, State.graft, State.withRxOf]

@[simp] theorem pushHold_graft (d : Byte) :
    (o.graft .rx s).pushHold d = o.graft .rx (s.pushHold d) := by
  rcases h : s.rxHold with _ | ⟨first, _ | ⟨next, more⟩⟩ <;> simp [State.pushHold, h]

@[simp] theorem accept_graft (d : Byte) :
    (o.graft .rx s).accept d = o.graft .rx (s.accept d) := by
  by_cases h : s.rxCount = s.cfg.rxMax <;> simp [State.accept, h]

@[simp] theorem checkCrc_graft (first second : Byte) :
    (o.graft .rx s).checkCrc first second = o.graft .rx (s.checkCrc first second) := by
  by_cases h : joinCrc s.cfg.crcOrder first second = s.rxCrc <;> simp [checkCrc_eq, h]

@[simp] theorem huntByte_graft (b : Byte) :
    (o.graft .rx s).huntByte b = o.graft .rx (s.huntByte b) := by
  by_cases h : b = s.cfg.flag <;> simp [State.huntByte, h]

@[simp] theorem escByte_graft (b : Byte) :
    (o.graft .rx s).escByte b = o.graft .rx (s.escByte b) := by
  cases h : pairs s.cfg b <;> simp [State.escByte, h]

@[simp] theorem endFrame_graft :
    (o.graft .rx s).endFrame = s.endFrame.map (o.graft .rx) := by
  by_cases h0 : s.rxCount = 0
  · simp [State.endFrame, h0]
  by_cases h1 : s.rxCount = 1
  · simp [State.endFrame, h1]
  rcases h : s.rxHold with _ | ⟨first, _ | ⟨second, more⟩⟩ <;> simp [State.endFrame, h0, h1, h]

@[simp] theorem dataByte_graft (b : Byte) :
    (o.graft .rx s).dataByte b = (s.dataByte b).map (o.graft .rx) := by
  unfold State.dataByte
  rw [graft_cfg]
  split
  · exact endFrame_graft o s
  · split <;> simp

@[simp] theorem receive_graft (b : Byte) :
    (o.graft .rx s).receive b = (s.receive b).map (o.graft .rx) := by
  cases h : s.rxState <;> simp [State.receive, h]

end

/-! ## Commands -/

section
variable {i j : Instr} {a b unit : BlockUnit} {s t : State}

/-- A command of a unit commutes with grafting that unit onto another state. -/
theorem exec_graft (o s : State) (hu : unitOf i = some unit) :
    exec i (o.graft unit s) = mapNext (o.graft unit) (exec i s) := by
  cases i with
  | crcInit => cases hu; simp [exec, execCrcInit]
  | crcLoad v => cases hu; simp [exec, execCrcLoad]
  | crcUpdate b => cases hu; simp [exec, execCrcUpdate]
  | crcRead => cases hu; simp [exec, execCrcRead]
  | txStart => cases hu; cases h : s.txState <;> simp [exec, execTxStart, h]
  | txData b => cases hu; cases h : s.txState <;> simp [exec, execTxData, h]
  | txEnd => cases hu; cases h : s.txState <;> simp [exec, execTxEnd, h]
  | rxByte b => cases hu; cases h : s.receive b <;> simp [exec, execRxByte, h]
  | nop | reset | query => cases hu

theorem mapNext_eq_next {f : State → State} {x : Host.Outcome State Fault Refusal}
    (h : mapNext f x = .next t) : ∃ e, x = .next e ∧ t = f e := by
  cases x with
  | next e => exact ⟨e, rfl, by simpa using h.symm⟩
  | fault => cases h
  | refused => cases h

theorem sendAndRespond_responses (s : State) (bytes : List Byte) :
    ∃ r, (s.sendAndRespond bytes).responses = s.responses ++ [r] := by
  rcases sendAndRespond_cases s bytes with ⟨_, h⟩ | ⟨k, _, h⟩
  · exact ⟨_, by rw [h]; rfl⟩
  · exact ⟨_, by rw [h]; rfl⟩

/-- A command that completes gives one response (R221). -/
theorem exec_responds (h : exec i s = .next t) : ∃ r, t.responses = s.responses ++ [r] := by
  cases i with
  | nop | query | crcInit | crcLoad | crcUpdate | crcRead => cases h; exact ⟨_, rfl⟩
  | reset mask => cases h; exact ⟨⟨.ok, 0⟩, by simp [resetUnits_eq]⟩
  | txStart =>
    rcases exec_txStart_next h with ⟨_, rfl⟩ | ⟨_, rfl⟩
    · exact ⟨_, rfl⟩
    · exact sendAndRespond_responses _ _
  | txData b =>
    rcases exec_txData_next h with ⟨_, rfl⟩ | ⟨_, rfl⟩
    · exact ⟨_, rfl⟩
    · exact sendAndRespond_responses _ _
  | txEnd =>
    rcases exec_txEnd_next h with ⟨_, rfl⟩ | ⟨_, rfl⟩
    · exact ⟨_, rfl⟩
    · exact sendAndRespond_responses _ _
  | rxByte b =>
    obtain ⟨u, hu, rfl⟩ := exec_rxByte_next h
    have kept : u.responses = s.responses := (congrArg State.responses (receive_frame hu)).trans rfl
    exact ⟨⟨.ok, 0⟩, by simp [kept]⟩

/-- What a command of a unit does is one graft, the same from every state that agrees with this one
on the configuration and the unit. -/
theorem exec_eq_graft (hu : unitOf i = some unit) (h : exec i s = .next t) :
    ∃ e r, e.cfg = s.cfg ∧ e.responses = [r] ∧ t = s.graft unit e ∧
      ∀ o, sameConfig s o → s.agreesOn o unit → exec i o = .next (o.graft unit e) := by
  have onto {o : State} (hcfg : sameConfig s o) (hunit : s.agreesOn o unit) :
      exec i o = mapNext (o.graft unit) (exec i s.silent) := by
    rw [← exec_graft o s.silent hu, graft_silent hcfg hunit]
  obtain ⟨e, he, ht⟩ := mapNext_eq_next ((onto rfl (agreesOn_refl s unit)).symm.trans h)
  obtain ⟨r, hr⟩ := exec_responds he
  refine ⟨e, r, (exec_sameConfig he).trans rfl, hr, ht, fun o hcfg hunit => ?_⟩
  rw [onto hcfg hunit, he, mapNext_next]

theorem runCommands_pair_iff :
    runCommands [i, j] s = .next t ↔ ∃ u, exec i s = .next u ∧ exec j u = .next t := by
  rcases exec_next_or_brokenHoldback i s with ⟨u, hi⟩ | hi
  · rcases exec_next_or_brokenHoldback j u with ⟨v, hj⟩ | hj
    · simp [runCommands, hi, hj]
    · simp [runCommands, hi, hj]
  · simp [runCommands, hi]

/-- Two commands of different units: if they complete in one order they do in the other, with the
same state but for the order of the responses (R61). -/
theorem runCommands_swap (hi : unitOf i = some a) (hj : unitOf j = some b) (hne : a ≠ b)
    (h : runCommands [i, j] s = .next t) :
    ∃ u r₁ r₂, runCommands [j, i] s = .next u ∧ t.responses = s.responses ++ [r₁, r₂] ∧
      u = { t with responses := s.responses ++ [r₂, r₁] } := by
  obtain ⟨v, first, second⟩ := runCommands_pair_iff.mp h
  obtain ⟨d, r₁, hd, hr₁, rfl, ofI⟩ := exec_eq_graft hi first
  obtain ⟨e, r₂, he, hr₂, rfl, ofJ⟩ := exec_eq_graft hj second
  have hde : d.cfg = e.cfg := by rw [he, graft_cfg]
  have jFirst : exec j s = .next (s.graft b e) :=
    ofJ s (by rw [sameConfig, graft_cfg, hd]) (graft_agreesOn s d hne)
  have iSecond : exec i (s.graft b e) = .next ((s.graft b e).graft a d) :=
    ofI _ (by rw [sameConfig, graft_cfg, ← hde, hd]) (agreesOn_symm (graft_agreesOn s e hne.symm))
  refine ⟨(s.graft b e).graft a d, r₁, r₂, runCommands_pair_iff.mpr ⟨_, jFirst, iSecond⟩, ?_, ?_⟩
  · simp [hr₁, hr₂]
  · simp [graft_graft_comm s hne d e hde, hr₁, hr₂]

end

/-- Settles O55: the frame of a command is that of a graft, and grafts of different units can be
exchanged. -/
theorem unitsAreIndependent : Obligations.UnitsAreIndependent := by
  refine ⟨fun i s t h => ⟨fun hu => ?_, fun hu => ?_, fun hu => ?_⟩,
    fun i j a b s t => runCommands_swap⟩
  · obtain ⟨e, -, -, -, rfl, -⟩ := exec_eq_graft hu h
    exact ⟨⟨rfl, rfl⟩, ⟨rfl, rfl, rfl, rfl⟩, rfl, rfl, rfl, rfl⟩
  · obtain ⟨e, -, -, -, rfl, -⟩ := exec_eq_graft hu h
    exact ⟨rfl, ⟨rfl, rfl, rfl, rfl⟩, rfl⟩
  · obtain ⟨e, -, -, -, rfl, -⟩ := exec_eq_graft hu h
    exact ⟨rfl, ⟨rfl, rfl⟩, rfl, rfl, rfl⟩

/-- Settles O56: from both states the command is the graft of the same unit. -/
theorem commandsReadOnlyTheirUnit : Obligations.CommandsReadOnlyTheirUnit := by
  intro i s₁ s₂ t₁ hcfg h
  refine ⟨fun hu hcrc => ?_, fun hu htx htransport => ?_, fun hu hrx => ?_⟩
  · obtain ⟨e, r, -, hr, rfl, ofI⟩ := exec_eq_graft hu h
    exact ⟨s₂.graft .crc e, r, ofI s₂ hcfg hcrc, rfl, by simp [hr], by simp [hr]⟩
  · obtain ⟨e, r, -, hr, rfl, ofI⟩ := exec_eq_graft hu h
    exact ⟨s₂.graft .tx e, r, e.wire, ofI s₂ hcfg ⟨htx, htransport⟩, ⟨rfl, rfl⟩, ⟨rfl, rfl⟩,
      by simp [hr], by simp [hr], rfl, rfl⟩
  · obtain ⟨e, r, -, hr, rfl, ofI⟩ := exec_eq_graft hu h
    exact ⟨s₂.graft .rx e, r, e.sink, ofI s₂ hcfg hrx, ⟨rfl, rfl, rfl, rfl⟩,
      by simp [hr], by simp [hr], rfl, rfl⟩

end Sys2Proof.Machine
end

section
/-! R57: repeating a command. -/

namespace Sys2Proof.Machine

/-! ## Commands that only respond, and commands with an idempotent effect -/

section
variable {i : Instr} {s : State}

/-- A command that only responds, and responds the same after that, has no side effect. -/
theorem repeats_of_responds {st : Status} {d : Half} (once : exec i s = .next (s.respond st d))
    (again : exec i (s.respond st d) = .next ((s.respond st d).respond st d)) :
    ∃ t u r, exec i s = .next t ∧ exec i t = .next u ∧
      t = { s with responses := s.responses ++ [r] } ∧
      u = { s with responses := s.responses ++ [r, r] } :=
  ⟨_, _, ⟨st, d⟩, once, again, rfl, by simp [State.respond]⟩

/-- A command that does `f` and responds `OK` leaves the same elements when it is repeated, if `f`
gives no response and changes nothing in a state where it has just been done. -/
theorem repeats_of_idempotent (f : State → State)
    (does : ∀ s, exec i s = .next ((f s).respond .ok 0))
    (quiet : (f s).responses = s.responses)
    (idem : f ((f s).respond .ok 0) = (f s).respond .ok 0) :
    ∃ t u r, exec i s = .next t ∧ exec i t = .next u ∧
      t.responses = s.responses ++ [r] ∧ u = { t with responses := s.responses ++ [r, r] } :=
  ⟨_, _, ⟨.ok, 0⟩, does s, does _, by simp [quiet], by rw [idem]; simp [State.respond, quiet]⟩

theorem nop_crcRead_query_repeat (h : i = .nop ∨ i = .crcRead ∨ ∃ sel, i = .query sel) :
    ∃ t u r, exec i s = .next t ∧ exec i t = .next u ∧
      t = { s with responses := s.responses ++ [r] } ∧
      u = { s with responses := s.responses ++ [r, r] } := by
  rcases h with rfl | rfl | ⟨sel, rfl⟩
  · exact repeats_of_responds (st := .ok) (d := 0) rfl rfl
  · exact repeats_of_responds (st := .ok) (d := s.crcAcc) rfl rfl
  · exact repeats_of_responds (st := .ok) (d := s.queried sel) rfl rfl

theorem resetUnits_idem (s : State) (mask : BitVec 3) :
    ((s.resetUnits mask).respond .ok 0).resetUnits mask = (s.resetUnits mask).respond .ok 0 := by
  simp +contextual [resetUnits_eq, State.respond]

theorem crcInit_crcLoad_reset_repeat
    (h : i = .crcInit ∨ (∃ v, i = .crcLoad v) ∨ ∃ mask, i = .reset mask) :
    ∃ t u r, exec i s = .next t ∧ exec i t = .next u ∧
      t.responses = s.responses ++ [r] ∧ u = { t with responses := s.responses ++ [r, r] } := by
  rcases h with rfl | ⟨v, rfl⟩ | ⟨mask, rfl⟩
  · exact repeats_of_idempotent (fun s => s.setCrcAcc s.cfg.seed) (fun _ => rfl) rfl rfl
  · exact repeats_of_idempotent (State.setCrcAcc · v) (fun _ => rfl) rfl rfl
  · exact repeats_of_idempotent (State.resetUnits · mask) (fun _ => rfl)
      (by simp [resetUnits_eq]) (resetUnits_idem s mask)

/-! ## `TX.START` -/

/-- `TX.START` with a `FLAG` the transport accepts opens a frame (R132). -/
theorem exec_txStart_accepted (hidle : s.txState = .idle) (haccept : s.answerAt 0 = .accepted) :
    exec .txStart s = .next
      ((((s.setTxCrc s.cfg.seed).setTxState .inFrame).afterAccepted [s.cfg.flag]).respond
        .ok 0) := by
  have accepts : ((s.setTxCrc s.cfg.seed).setTxState .inFrame).acceptsNext 1 := by
    intro k hk
    obtain rfl : k = 0 := by omega
    exact haccept
  simp [exec, execTxStart, hidle, State.sendAndRespond, emitAll_accepted [s.cfg.flag] _ accepts]

theorem exec_txStart_inFrame (h : s.txState = .inFrame) :
    exec .txStart s = .next (s.respond .protocolViolation 0) := by
  simp [exec, execTxStart, h]

theorem txStart_twice_violates (hidle : s.txState = .idle) (haccept : s.answerAt 0 = .accepted) :
    ∃ t u, exec .txStart s = .next t ∧ exec .txStart t = .next u ∧
      u = { t with responses := s.responses ++ [⟨.ok, 0⟩, ⟨.protocolViolation, 0⟩] } :=
  ⟨_, _, exec_txStart_accepted hidle haccept, exec_txStart_inFrame rfl,
    by simp [State.respond, State.afterAccepted]⟩

end

/-! ## Commands that are not idempotent -/

/-- Inside a TX frame and a receive frame, both just opened, with the next eight bytes accepted. -/
def State.midFrames : State :=
  { (State.resetWith (Params.defaultProfile 16)).openFrame with
    txState := .inFrame
    answers := List.replicate 8 .accepted }

@[simp] theorem midFrames_poly : State.midFrames.cfg.poly = 0x1021 := rfl
@[simp] theorem midFrames_crcAcc : State.midFrames.crcAcc = 0xFFFF := rfl
@[simp] theorem midFrames_txCrc : State.midFrames.txCrc = 0xFFFF := rfl

/-- The zero byte taken into the CRC a second time changes it again. -/
theorem crcStep_crcStep_ne :
    crcStep 0x1021 (crcStep 0x1021 0xFFFF 0x00) 0x00 ≠ crcStep 0x1021 0xFFFF 0x00 := by
  have once : crcStep 0x1021 0xFFFF 0x00 = 0xE1F0 := by decide
  have twice : crcStep 0x1021 0xE1F0 0x00 = 0x1D0F := by decide
  rw [once, twice]
  decide

theorem exec_crcUpdate (b : Byte) (s : State) : exec (.crcUpdate b) s =
    .next ((s.setCrcAcc (crcStep s.cfg.poly s.crcAcc b)).respond .ok 0) := rfl

theorem crcUpdate_not_idempotent : ∃ (s t u : State) (b : Byte),
    exec (.crcUpdate b) s = .next t ∧ exec (.crcUpdate b) t = .next u ∧ u.crcAcc ≠ t.crcAcc :=
  ⟨State.midFrames, _, _, 0x00, exec_crcUpdate _ _, exec_crcUpdate _ _,
    by simpa using crcStep_crcStep_ne⟩

theorem exec_txData_inFrame {s : State} (b : Byte) (h : s.txState = .inFrame) :
    exec (.txData b) s = .next
      ((s.setTxCrc (crcStep s.cfg.poly s.txCrc b)).sendAndRespond (escape s.cfg b)) := by
  simp [exec, execTxData, h]

theorem sendAndRespond_txState_of_accepted {s : State} {bytes : List Byte}
    (h : s.acceptsNext bytes.length) : (s.sendAndRespond bytes).txState = s.txState := by
  simp [State.sendAndRespond, emitAll_accepted bytes s h, State.afterAccepted]

/-- A first `TX.DATA` that is accepted leaves the frame open for the second (R133). -/
theorem txData_not_idempotent : ∃ (s t u : State) (b : Byte),
    exec (.txData b) s = .next t ∧ exec (.txData b) t = .next u ∧ u.txCrc ≠ t.txCrc := by
  have accepts : State.midFrames.acceptsNext (escape State.midFrames.cfg 0x00).length := by decide
  have first := exec_txData_inFrame (s := State.midFrames) 0x00 rfl
  have second := exec_txData_inFrame 0x00 (sendAndRespond_txState_of_accepted
    (s := State.midFrames.setTxCrc (crcStep 0x1021 0xFFFF 0x00)) accepts)
  exact ⟨_, _, _, _, first, second, by simpa using crcStep_crcStep_ne⟩

/-- The first `TX.END` closes the frame, so the second finds none (R134). -/
theorem txEnd_not_idempotent : ∃ s t u : State, exec .txEnd s = .next t ∧
    exec .txEnd t = .next u ∧ t.responses.getLast? = some ⟨.ok, 0⟩ ∧
    u.responses.getLast? = some ⟨.protocolViolation, 0⟩ :=
  ⟨State.midFrames, _, _, rfl, rfl, by decide, by decide⟩

theorem rxByte_not_idempotent : ∃ (s t u : State) (b : Byte),
    exec (.rxByte b) s = .next t ∧ exec (.rxByte b) t = .next u ∧ u.rxCount ≠ t.rxCount :=
  ⟨State.midFrames, _, _, 0x41, rfl, rfl, by decide⟩

/-- Settles O57, clause by clause. -/
theorem repeatedCommands : Obligations.RepeatedCommands :=
  ⟨fun _ _ => nop_crcRead_query_repeat, fun _ _ => crcInit_crcLoad_reset_repeat,
    fun _ => txStart_twice_violates, crcUpdate_not_idempotent, txData_not_idempotent,
    txEnd_not_idempotent, rxByte_not_idempotent⟩

end Sys2Proof.Machine
end

section
/-! R70 to R73: a word and its fields, the must-be-zero bits as a bound, and the decoder, one
equation per case of R73. -/

namespace Sys2Proof.Laws

open Sys2Proof

/-! ## A word and its fields (R70) -/

/-- A word is its fields put together. -/
theorem append_fields (w : Word) : opField w ++ rsvField w ++ opdField w = w := by
  have upper : opField w ++ rsvField w = w.extractLsb' 16 16 :=
    BitVec.extractLsb'_append_extractLsb'_eq_extractLsb' (by decide)
  have whole : w.extractLsb' 16 16 ++ opdField w = w.extractLsb' 0 32 :=
    BitVec.extractLsb'_append_extractLsb'_eq_extractLsb' (by decide)
  rw [upper]
  exact whole.trans BitVec.extractLsb'_eq_self

/-- Words are equal exactly if their fields are. -/
theorem append_fields_inj {c c' r r' : Byte} {d d' : Half} :
    (c ++ r ++ d : Word) = c' ++ r' ++ d' ↔ c = c' ∧ r = r' ∧ d = d' := by
  refine ⟨fun h => ⟨?_, ?_, ?_⟩, ?_⟩
  · simpa only [opField_append] using congrArg opField h
  · simpa only [rsvField_append] using congrArg rsvField h
  · simpa only [opdField_append] using congrArg opdField h
  · rintro ⟨rfl, rfl, rfl⟩
    rfl

/-! ## The opcodes of the table (R72) -/

theorem mem_opcode_all (o : Opcode) : o ∈ Opcode.all := by cases o <;> decide

theorem opcodeOf_eq_some_iff {b : Byte} {o : Opcode} : opcodeOf b = some o ↔ b = o.code := by
  constructor
  · intro h
    unfold opcodeOf at h
    have found := List.find?_some h
    exact (eq_of_beq found).symm
  · rintro rfl
    exact opcodeOf_code o

theorem opcodeOf_eq_none_iff {b : Byte} : opcodeOf b = none ↔ ∀ o : Opcode, b ≠ o.code := by
  simp [Option.eq_none_iff_forall_ne_some, opcodeOf_eq_some_iff]

theorem code_injective {o₁ o₂ : Opcode} (h : o₁.code = o₂.code) : o₁ = o₂ :=
  Option.some.inj ((opcodeOf_code o₁).symm.trans (opcodeOf_eq_some_iff.mpr h))

/-! ## Must-be-zero bits and value bits (R71) -/

theorem mustBeZero_eq_shiftLeft (f : Form) :
    f.mustBeZero = BitVec.allOnes 16 <<< f.valueBits := by cases f <;> decide

theorem two_pow_valueBits_le (f : Form) : 2 ^ f.valueBits ≤ 2 ^ 16 := by cases f <;> decide

/-- An operand whose must-be-zero bits are zero is a value of the form's value field. -/
theorem lt_of_mustBeZero {d : Half} {f : Form} (h : d &&& f.mustBeZero = 0) :
    d.toNat < 2 ^ f.valueBits := by
  refine Nat.lt_pow_two_of_testBit _ fun k hk => ?_
  rw [BitVec.testBit_toNat]
  by_cases hlow : k < 16
  · have bit : (d &&& f.mustBeZero).getLsbD k = false := by rw [h]; exact BitVec.getLsbD_zero
    have ones : f.mustBeZero.getLsbD k = true := by
      rw [mustBeZero_eq_shiftLeft, BitVec.getLsbD_shiftLeft, BitVec.getLsbD_allOnes]
      simp [hlow, Nat.not_lt.mpr hk, (Nat.sub_le k f.valueBits).trans_lt hlow]
    rwa [BitVec.getLsbD_and, ones, Bool.and_true] at bit
  · exact BitVec.getLsbD_of_ge d k (by omega)

/-! ## The command of a row (R71, R72) -/

@[simp] theorem command_opcode (o : Opcode) (d : Half) : (o.command d).opcode = o := by
  cases o <;> rfl

theorem lowBits_toNat (d : Half) {n : Nat} (hn : n ≤ 16) :
    ((d.extractLsb' 0 n).setWidth 16).toNat = d.toNat % 2 ^ n := by
  rw [BitVec.toNat_setWidth_of_le hn, BitVec.extractLsb'_toNat, Nat.shiftRight_zero]

/-- A row reads the value field of its form and nothing else. -/
theorem command_operand_toNat (o : Opcode) (d : Half) :
    (o.command d).operand.toNat = d.toNat % 2 ^ o.form.valueBits := by
  cases o with
  | reset | query | crcUpdate | txData | rxByte => exact lowBits_toNat d (by decide)
  | crcLoad => exact (Nat.mod_eq_of_lt d.isLt).symm
  | nop | crcInit | crcRead | txStart | txEnd => exact (Nat.mod_one _).symm

/-- A row's command carries any operand whose must-be-zero bits are zero. -/
theorem operand_command {o : Opcode} {d : Half} (h : d &&& o.form.mustBeZero = 0) :
    (o.command d).operand = d := by
  apply BitVec.eq_of_toNat_eq
  rw [command_operand_toNat, Nat.mod_eq_of_lt (lt_of_mustBeZero h)]

/-! ## The decoder (R73) -/

section
variable {w : Word} {o : Opcode}

theorem decode_of_reservedOpcode (hop : opcodeOf (opField w) = none) :
    decode w = .error .reservedOpcode := by
  simp [decode, hop]

theorem decode_of_reservedField (hop : opField w = o.code) (hrsv : rsvField w ≠ 0) :
    decode w = .error .reservedField := by
  simp only [decode, opcodeOf_eq_some_iff.mpr hop, if_pos hrsv]

theorem decode_of_operandBits (hop : opField w = o.code) (hrsv : rsvField w = 0)
    (hopd : opdField w &&& o.form.mustBeZero ≠ 0) : decode w = .error .operandBits := by
  simp only [decode, opcodeOf_eq_some_iff.mpr hop, if_neg (not_not.mpr hrsv), if_pos hopd]

/-- The word is in the row of `o`: its `OP` is the row's, and its `RSV` and must-be-zero bits are
zero (R72). -/
def InRow (w : Word) (o : Opcode) : Prop :=
  opField w = o.code ∧ rsvField w = 0 ∧ opdField w &&& o.form.mustBeZero = 0

/-- The decoder gives exactly the commands of the rows the word is in. -/
theorem decode_eq_ok_iff {i : Instr} :
    decode w = .ok i ↔ ∃ o, InRow w o ∧ i = o.command (opdField w) := by
  constructor
  · intro h
    cases hop : opcodeOf (opField w) with
    | none => simp [decode_of_reservedOpcode hop] at h
    | some o =>
      have hcode := opcodeOf_eq_some_iff.mp hop
      by_cases hrsv : rsvField w = 0
      case neg => simp [decode_of_reservedField hcode hrsv] at h
      by_cases hopd : opdField w &&& o.form.mustBeZero = 0
      case neg => simp [decode_of_operandBits hcode hrsv hopd] at h
      rw [decode_eq_ok hop hrsv hopd] at h
      exact ⟨o, ⟨hcode, hrsv, hopd⟩, (Except.ok.inj h).symm⟩
  · rintro ⟨o, ⟨hop, hrsv, hopd⟩, rfl⟩
    exact decode_eq_ok (opcodeOf_eq_some_iff.mpr hop) hrsv hopd

/-- A word in a row is the encoding of the row's command. -/
theorem encode_command (h : InRow w o) : encode (o.command (opdField w)) = w := by
  obtain ⟨hop, hrsv, hopd⟩ := h
  calc encode (o.command (opdField w))
      = o.code ++ 0#8 ++ opdField w := by rw [encode, command_opcode, operand_command hopd]
    _ = opField w ++ rsvField w ++ opdField w := by rw [hop, hrsv]; rfl
    _ = w := append_fields w

theorem legal_iff_inRow : (∃ i, decode w = .ok i) ↔ ∃ o, InRow w o := by
  simp only [decode_eq_ok_iff]
  exact ⟨fun ⟨_, o, ho, _⟩ => ⟨o, ho⟩, fun ⟨o, ho⟩ => ⟨_, o, ho, rfl⟩⟩

end

/-! ## The printed opcode map (R72) -/

/-- The map has one row for each opcode, in the same order. -/
theorem opcodeTable_map_opcode : opcodeTable.map Row.opcode = Opcode.all := rfl

theorem exists_row (o : Opcode) : ∃ r ∈ opcodeTable, r.opcode = o :=
  List.mem_map.mp (opcodeTable_map_opcode ▸ mem_opcode_all o)

theorem row_eq_of_opcode_eq {r₁ r₂ : Row} (h₁ : r₁ ∈ opcodeTable) (h₂ : r₂ ∈ opcodeTable)
    (h : r₁.opcode = r₂.opcode) : r₁ = r₂ :=
  List.inj_on_of_nodup_map (opcodeTable_map_opcode ▸ by decide : (opcodeTable.map _).Nodup)
    h₁ h₂ h

/-- The printed `match` and `mask` columns are those of the row's `OP` value and form. -/
theorem row_columns : ∀ r ∈ opcodeTable, r.pattern = r.opcode.code ++ 0#8 ++ 0#16 ∧
    r.mask = 0xFF#8 ++ 0xFF#8 ++ r.opcode.form.mustBeZero := by
  decide

/-- A row selects exactly the words that are in it. -/
theorem selects_iff_inRow {r : Row} (hr : r ∈ opcodeTable) (w : Word) :
    r.selects w = true ↔ InRow w r.opcode := by
  obtain ⟨hpattern, hmask⟩ := row_columns r hr
  have ones : 0xFF#8 = BitVec.allOnes 8 := by decide
  have masked : w &&& r.mask =
      opField w ++ rsvField w ++ (opdField w &&& r.opcode.form.mustBeZero) := by
    conv_lhs => rw [← append_fields w]
    rw [hmask, BitVec.and_append, BitVec.and_append, ones, BitVec.and_allOnes, BitVec.and_allOnes]
  rw [Row.selects, beq_iff_eq, masked, hpattern, append_fields_inj]
  rfl

theorem inRow_unique {w : Word} {o₁ o₂ : Opcode} (h₁ : InRow w o₁) (h₂ : InRow w o₂) : o₁ = o₂ :=
  code_injective (h₁.1.symm.trans h₂.1)

end Sys2Proof.Laws
end

section
/-! R70 to R74, R78: the statements about the encoding. -/

namespace Sys2Proof.Laws

open Sys2Proof

/-- Settles O1: an encoded command passes the three checks of R73, and its row reads it back. -/
theorem decodeOfEncode : Obligations.DecodeOfEncode := decode_encode

/-- Settles O2: every clause goes through the row the word is in. -/
theorem legalWordsAreTheTableRows : Obligations.LegalWordsAreTheTableRows := by
  intro w
  refine ⟨?_, ?_, fun i hi => ?_, fun r₁ hr₁ r₂ hr₂ h₁ h₂ => ?_⟩
  · rw [legal_iff_inRow]
    exact ⟨fun ⟨o, ho⟩ => ⟨o, mem_opcode_all o, ho⟩, fun ⟨o, _, ho⟩ => ⟨o, ho⟩⟩
  · rw [legal_iff_inRow]
    constructor
    · rintro ⟨o, ho⟩
      obtain ⟨r, hr, rfl⟩ := exists_row o
      exact ⟨r, hr, (selects_iff_inRow hr w).mpr ho⟩
    · rintro ⟨r, hr, hsel⟩
      exact ⟨r.opcode, (selects_iff_inRow hr w).mp hsel⟩
  · obtain ⟨o, ho, rfl⟩ := decode_eq_ok_iff.mp hi
    obtain ⟨r, hr, rfl⟩ := exists_row o
    exact ⟨encode_command ho, r, hr, (selects_iff_inRow hr w).mpr ho, (command_opcode _ _).symm⟩
  · exact row_eq_of_opcode_eq hr₁ hr₂
      (inRow_unique ((selects_iff_inRow hr₁ w).mp h₁) ((selects_iff_inRow hr₂ w).mp h₂))

/-- Appending is shifting and `OR`, field by field (R78). -/
theorem append_eq_shiftLeft_or (c : Byte) (d : Half) :
    (c ++ 0#8 ++ d : Word) = (c.setWidth 32 <<< 24) ||| d.setWidth 32 := by
  have hc : c.toNat <<< 24 < 2 ^ 32 := by
    have := c.isLt
    rw [Nat.shiftLeft_eq]
    omega
  have upper : (c.setWidth 32 <<< 24).toNat = c.toNat <<< 24 := by
    rw [BitVec.toNat_shiftLeft, BitVec.toNat_setWidth_of_le (by decide), Nat.mod_eq_of_lt hc]
  have front : (c ++ 0#8).toNat = c.toNat <<< 8 :=
    (BitVec.toNat_append c 0#8).trans (Nat.or_zero _)
  apply BitVec.eq_of_toNat_eq
  calc (c ++ 0#8 ++ d).toNat
      = (c ++ 0#8).toNat <<< 16 ||| d.toNat := BitVec.toNat_append _ _
    _ = c.toNat <<< 24 ||| d.toNat := by rw [front, ← Nat.shiftLeft_add]
    _ = _ := by rw [BitVec.toNat_or, upper, BitVec.toNat_setWidth_of_le (by decide)]

/-- Settles O3: `append_eq_shiftLeft_or` for the word; the operands are their definition. -/
theorem wordIsShiftedOpcodeOrOperand : Obligations.WordIsShiftedOpcodeOrOperand :=
  ⟨fun i => append_eq_shiftLeft_or i.opcode.code i.operand, fun _ => ⟨rfl, rfl, rfl⟩,
    fun _ => rfl, fun _ => rfl, fun _ => rfl, by decide⟩

/-- Settles O4: a legal word is its command's encoding; an illegal one fails a check of R73. -/
theorem writtenOutWordsDecode : Obligations.WrittenOutWordsDecode :=
  ⟨decode_encode .nop, decode_encode (.reset 7), decode_encode (.query 2),
    decode_encode (.crcLoad 0x4560), decode_encode (.crcUpdate 0x31),
    decode_encode (.txData 0x7E), decode_encode .txEnd, decode_encode (.rxByte 0x93),
    decode_of_reservedOpcode (by decide),
    decode_of_reservedField (o := .crcLoad) (by decide) (by decide),
    decode_of_operandBits (o := .txData) (by decide) (by decide) (by decide)⟩

/-- The four ranges of R74. -/
abbrev inReservedRange (b : Byte) : Prop :=
  (0x03#8 ≤ b ∧ b ≤ 0x0F#8) ∨ (0x14#8 ≤ b ∧ b ≤ 0x1F#8) ∨ (0x23#8 ≤ b ∧ b ≤ 0x2F#8) ∨ 0x31#8 ≤ b

theorem code_not_inReservedRange (o : Opcode) : ¬ inReservedRange o.code := by
  cases o <;> decide

theorem opcodeOf_of_inReservedRange {b : Byte} (h : inReservedRange b) : opcodeOf b = none := by
  rw [opcodeOf_eq_none_iff]
  rintro o rfl
  exact code_not_inReservedRange o h

/-- 245 of the 256 bytes are no opcode, counted over four blocks of 64. -/
theorem countP_opcodeOf_isNone :
    ((List.range 256).countP fun n => (opcodeOf (BitVec.ofNat 8 n)).isNone) = 245 := by
  rw [show 256 = 64 + 64 + 64 + 64 from rfl, List.range_add, List.range_add, List.range_add]
  simp only [List.countP_append, List.countP_map]
  decide

/-- Settles O5: no code of the table is in the four ranges. -/
theorem reservedOpcodesAreIllegal : Obligations.ReservedOpcodesAreIllegal :=
  ⟨fun _ h => ⟨_, decode_of_reservedOpcode (opcodeOf_of_inReservedRange h)⟩,
    countP_opcodeOf_isNone⟩

end Sys2Proof.Laws
end

section
/-! R76, R77: the assembler. -/

namespace Sys2Proof.Machine

open Sys2Proof.Laws

/-! ## One command (R76) -/

theorem fits_some_iff (f : Form) (v : Nat) :
    f.fits (some v) = true ↔ f ≠ .z ∧ v < 2 ^ f.valueBits := by
  cases f with
  | z => simp [Form.fits]
  | b8 | h16 | m3 | s2 => simp [Form.fits, Nat.blt_eq]

theorem fits_none_iff (f : Form) : f.fits none = true ↔ f = .z := by cases f <;> decide

theorem assembleCommand_of_fits {op : Opcode} {value : Option Nat}
    (h : op.form.fits value = true) :
    assembleCommand op value = some [op.command (BitVec.ofNat 16 (value.getD 0))] := by
  simp [assembleCommand, h]

theorem assembleCommand_of_not_fits {op : Opcode} {value : Option Nat}
    (h : ¬ op.form.fits value = true) : assembleCommand op value = none := by
  simp [assembleCommand, h]

/-- A value that fits its form is carried whole. -/
theorem command_operand_of_fits {op : Opcode} {v : Nat} (hv : v < 2 ^ op.form.valueBits) :
    (op.command (BitVec.ofNat 16 v)).operand.toNat = v := by
  have hword : v < 2 ^ 16 := hv.trans_le (two_pow_valueBits_le op.form)
  rw [command_operand_toNat, BitVec.toNat_ofNat, Nat.mod_eq_of_lt hword, Nat.mod_eq_of_lt hv]

/-- Settles O6: the assembler takes what `Form.fits` takes, and the command carries the value. -/
theorem assemblerTakesExactlyWhatFits : Obligations.AssemblerTakesExactlyWhatFits := by
  refine fun o v => ⟨fun h => ?_, fun h => ?_, fun h => ?_⟩
  · exact ⟨_, assembleCommand_of_fits ((fits_some_iff _ _).mpr h), command_opcode _ _,
      command_operand_of_fits h.2⟩
  · refine assembleCommand_of_not_fits fun hfits => ?_
    obtain ⟨hform, hv⟩ := (fits_some_iff _ _).mp hfits
    exact h.elim hform hv.not_ge
  · exact ⟨_, assembleCommand_of_fits ((fits_none_iff _).mpr h), command_opcode _ _⟩

/-! ## Pseudo-instructions (R77) -/

/-- A command with an operand is assembled from the operand's value. -/
theorem assembleCommand_operand {i : Instr} {op : Opcode} {v : Nat} (hop : i.opcode = op)
    (hform : op.form ≠ .z) (hv : i.operand.toNat = v) :
    assembleCommand op (some v) = some [i] := by
  subst hop hv
  have hfits : i.opcode.form.fits (some i.operand.toNat) = true :=
    (fits_some_iff _ _).mpr ⟨hform, lt_of_mustBeZero (operand_mustBeZero i)⟩
  rw [assembleCommand_of_fits hfits, Option.getD_some, BitVec.ofNat_toNat, BitVec.setWidth_eq,
    command_operand]

theorem byte_operand_toNat (b : Byte) : (b.setWidth 16).toNat = b.toNat :=
  BitVec.toNat_setWidth_of_le (by decide)

theorem assembleCommand_crcUpdate (b : Byte) :
    assembleCommand .crcUpdate (some b.toNat) = some [.crcUpdate b] :=
  assembleCommand_operand rfl (by decide) (byte_operand_toNat b)

theorem assembleCommand_txData (b : Byte) :
    assembleCommand .txData (some b.toNat) = some [.txData b] :=
  assembleCommand_operand rfl (by decide) (byte_operand_toNat b)

theorem assembleCommand_rxByte (b : Byte) :
    assembleCommand .rxByte (some b.toNat) = some [.rxByte b] :=
  assembleCommand_operand rfl (by decide) (byte_operand_toNat b)

theorem assembleCommand_crcLoad (v : Half) :
    assembleCommand .crcLoad (some v.toNat) = some [.crcLoad v] :=
  assembleCommand_operand rfl (by decide) rfl

theorem assembleCommand_reset (mask : BitVec 3) :
    assembleCommand .reset (some mask.toNat) = some [.reset mask] :=
  assembleCommand_operand rfl (by decide)
    (BitVec.toNat_setWidth_of_le (by decide))

/-- A command that is assembled from each byte value is assembled from every list of them. -/
theorem assembleEach_map {op : Opcode} {mk : Byte → Instr}
    (one : ∀ b : Byte, assembleCommand op (some b.toNat) = some [mk b]) (bytes : List Byte) :
    assembleEach op (bytes.map BitVec.toNat) = some (bytes.map mk) := by
  induction bytes with
  | nil => rfl
  | cons b rest ih => simp [assembleEach, one, ih]

theorem assembleFeed_cons (op : Opcode) (v : Nat) (rest : List Nat) :
    assembleFeed op (v :: rest) = assembleEach op (v :: rest) := rfl

/-- Settles O7: each line is put together from `assembleEach_map` and single commands. -/
theorem pseudoInstructionsExpand : Obligations.PseudoInstructionsExpand := by
  intro start b bytes
  have updates := assembleEach_map assembleCommand_crcUpdate (b :: bytes)
  have data := assembleEach_map assembleCommand_txData (b :: bytes)
  have received := assembleEach_map assembleCommand_rxByte (b :: bytes)
  refine ⟨updates, ?_, ?_, rfl, received, assembleCommand_reset 7⟩
  · simp only [assembleLine, assembleCommand_crcLoad, updates]
  · simp only [assembleLine, data, Option.map_some]

end Sys2Proof.Machine
end

section
/-! R79, R221, R225: the responses of the commands and the response word. -/

namespace Sys2Proof.Machine

/-! ## The response word (R79) -/

section
variable (r : Response)

theorem response_word_data : r.word.extractLsb' 0 16 = r.data :=
  BitVec.extractLsb'_append_eq_right

theorem response_word_status : r.word.extractLsb' 16 3 = r.status.code :=
  (BitVec.extractLsb'_append_eq_of_le (by decide)).trans BitVec.extractLsb'_append_eq_right

theorem response_word_rest : r.word.extractLsb' 19 13 = 0 :=
  (BitVec.extractLsb'_append_eq_of_le (by decide)).trans BitVec.extractLsb'_append_eq_left

end

/-! ## The responses (R221, R225) -/

/-- The responses of a TX command (R223, R224). -/
def txResponses : List Response :=
  [⟨.ok, 0⟩, ⟨.protocolViolation, 0⟩, ⟨.transportWriteFailure, 0⟩]

theorem sendAndRespond_txResponses (s : State) (bytes : List Byte) :
    ∃ r ∈ txResponses, (s.sendAndRespond bytes).responses = s.responses ++ [r] := by
  rcases sendAndRespond_cases s bytes with ⟨_, h⟩ | ⟨k, _, h⟩
  · exact ⟨⟨.ok, 0⟩, by decide, by rw [h]; rfl⟩
  · exact ⟨⟨.transportWriteFailure, 0⟩, by decide, by rw [h]; rfl⟩

section
variable {i : Instr} {s t : State}

/-- A command that is a violation or else a sending gives a TX response. -/
theorem txResponses_of_violation_or_sending {P Q : Prop} {u : State} {bytes : List Byte}
    (h : P ∧ t = s.respond .protocolViolation 0 ∨ Q ∧ t = u.sendAndRespond bytes)
    (hu : u.responses = s.responses) :
    ∃ r ∈ txResponses, t.responses = s.responses ++ [r] := by
  rcases h with ⟨_, rfl⟩ | ⟨_, rfl⟩
  · exact ⟨⟨.protocolViolation, 0⟩, by decide, rfl⟩
  · rw [← hu]
    exact sendAndRespond_txResponses u bytes

theorem exec_tx_responds (hu : unitOf i = some .tx) (h : exec i s = .next t) :
    ∃ r ∈ txResponses, t.responses = s.responses ++ [r] := by
  cases i with
  | txStart => exact txResponses_of_violation_or_sending (exec_txStart_next h) rfl
  | txData b => exact txResponses_of_violation_or_sending (exec_txData_next h) rfl
  | txEnd => exact txResponses_of_violation_or_sending (exec_txEnd_next h) rfl
  | nop | reset | query | crcInit | crcLoad | crcUpdate | crcRead | rxByte => cases hu

/-- Every other command responds `OK`, with data zero but for `CRC.READ` and `QUERY`. -/
theorem exec_responds_ok (hu : unitOf i ≠ some .tx) (h : exec i s = .next t) :
    ∃ d, t.responses = s.responses ++ [⟨.ok, d⟩] ∧
      (d ≠ 0 → i = .crcRead ∨ ∃ sel, i = .query sel) := by
  cases i with
  | nop | crcInit | crcLoad | crcUpdate => cases h; exact ⟨0, rfl, fun hd => absurd rfl hd⟩
  | reset mask => cases h; exact ⟨0, by simp [resetUnits_eq], fun hd => absurd rfl hd⟩
  | crcRead => cases h; exact ⟨_, rfl, fun _ => .inl rfl⟩
  | query sel => cases h; exact ⟨_, rfl, fun _ => .inr ⟨sel, rfl⟩⟩
  | rxByte b =>
    obtain ⟨u, hr, rfl⟩ := exec_rxByte_next h
    have kept : u.responses = s.responses := (congrArg State.responses (receive_frame hr)).trans rfl
    exact ⟨0, by simp [kept], fun hd => absurd rfl hd⟩
  | txStart | txData | txEnd => exact absurd rfl hu

end

/-- Settles O54: a TX command gives one of `txResponses`, every other command `OK`. -/
theorem responsesAndTheirWords : Obligations.ResponsesAndTheirWords := by
  refine ⟨fun i s t h => ?_,
    fun r => ⟨response_word_data r, response_word_status r, response_word_rest r⟩, by decide⟩
  by_cases hu : unitOf i = some .tx
  · obtain ⟨r, hr, ht⟩ := exec_tx_responds hu h
    have facts : ∀ r ∈ txResponses, (r.status = .ok ∨ r.status = .protocolViolation ∨
        r.status = .transportWriteFailure) ∧ r.data = 0 := by decide
    obtain ⟨hstatus, hdata⟩ := facts r hr
    exact ⟨r, ht, hstatus, fun _ => hu, fun hne => absurd hdata hne⟩
  · obtain ⟨d, ht, hdata⟩ := exec_responds_ok hu h
    exact ⟨⟨.ok, d⟩, ht, .inl rfl, fun hne => absurd rfl hne, fun hne => ⟨hdata hne, rfl⟩⟩

end Sys2Proof.Machine
end

section
/-! R101, R102: folding is `List.foldl` of the one-byte step; the commands of the CRC unit (R104 to
R108). -/

namespace Sys2Proof.Machine

/-! ## Folding chunks (R101, R102) -/

theorem crcFold_eq_foldl (poly c : Half) (bytes : List Byte) :
    crcFold poly c bytes = bytes.foldl (crcStep poly) c := by
  induction bytes generalizing c with
  | nil => rfl
  | cons b rest ih => exact ih (crcStep poly c b)

theorem crcFold_append (poly c : Half) (a b : List Byte) :
    crcFold poly c (a ++ b) = crcFold poly (crcFold poly c a) b := by
  simp only [crcFold_eq_foldl, List.foldl_append]

theorem foldl_crcFold (poly c : Half) (chunks : List (List Byte)) :
    chunks.foldl (crcFold poly) c = crcFold poly c chunks.flatten := by
  induction chunks generalizing c with
  | nil => rfl
  | cons chunk rest ih => rw [List.foldl_cons, ih, List.flatten_cons, crcFold_append]

/-- Settles O26, with `crcFold_append`. -/
theorem foldingChunksFoldsTheWhole : Obligations.FoldingChunksFoldsTheWhole :=
  ⟨crcFold_append, fun p chunks => foldl_crcFold p.poly p.seed chunks⟩

/-! ## The fixed points of a zero byte (R105, R106) -/

theorem crcShifts_of_zero (poly : Half) (n : Nat) : crcShifts poly n 0 = 0 := by
  induction n with
  | zero => rfl
  | succ n ih => exact ih

theorem crcStep_zero_zero (poly : Half) : crcStep poly 0 0 = 0 := crcShifts_of_zero poly 8

/-- For the `POLY` of `DEFAULT` the value `0xF01F` is a second fixed point (log 16). -/
theorem crcStep_secondFixedPoint : crcStep 0x1021 0xF01F 0x00 = 0xF01F := by decide

/-! ## Words of the unit's commands (R73, R78) -/

/-- Of the words with a row's `OP`, those outside the row are illegal. -/
theorem illegalUnless_of_inRow {o : Opcode} {legal : Word → Prop}
    (h : ∀ w, Laws.InRow w o → legal w) : illegalUnless o.code legal := by
  intro w hop hlegal
  by_cases hrsv : rsvField w = 0
  case neg => exact ⟨_, Laws.decode_of_reservedField hop hrsv⟩
  by_cases hopd : opdField w &&& o.form.mustBeZero = 0
  case neg => exact ⟨_, Laws.decode_of_operandBits hop hrsv hopd⟩
  exact absurd (h w ⟨hop, hrsv, hopd⟩) hlegal

/-- A word with a byte operand has zero in bits 23:8 (R71). -/
theorem byteOperand_middle_zero (c b : Byte) :
    (c ++ 0#8 ++ b.setWidth 16 : Word).extractLsb' 8 16 = 0 := by
  apply BitVec.eq_of_getLsbD_eq
  intro k hk
  rw [BitVec.getLsbD_extractLsb', Laws.word_bit, BitVec.getLsbD_setWidth,
    BitVec.getLsbD_of_ge b (8 + k) (by omega)]
  by_cases low : 8 + k < 16
  · simp [low]
  · simp [low, show 8 + k - 16 < 8 by omega]

theorem encode_crcLoad (v : Half) : encode (.crcLoad v) = 0x11000000 ||| v.setWidth 32 :=
  Laws.append_eq_shiftLeft_or 0x11 v

theorem encode_crcUpdate (b : Byte) : encode (.crcUpdate b) = 0x12000000 ||| b.setWidth 32 := by
  have widths : (b.setWidth 16).setWidth 32 = b.setWidth 32 :=
    BitVec.setWidth_setWidth (by omega)
  rw [← widths]
  exact Laws.append_eq_shiftLeft_or 0x12 (b.setWidth 16)

/-! ## The commands (R104 to R107) -/

/-- Settles O20: the only word of the row is the encoding of `CRC.INIT`. -/
theorem crcInitLoadsTheSeed : Obligations.CrcInitLoadsTheSeed :=
  ⟨fun _ => rfl, by decide, illegalUnless_of_inRow (o := .crcInit) fun _ h =>
    (Laws.encode_command h).symm.trans (by decide : encode .crcInit = 0x10000000)⟩

/-- Settles O21: a word of the row has `RSV = 0`. -/
theorem crcLoadLoadsItsOperand : Obligations.CrcLoadLoadsItsOperand :=
  ⟨fun _ _ => rfl, fun _ => rfl, encode_crcLoad,
    illegalUnless_of_inRow (o := .crcLoad) fun _ ⟨_, hrsv, _⟩ => hrsv, crcStep_zero_zero⟩

/-- Settles O22: a word of the row is the encoding of a `CRC.UPDATE`. -/
theorem crcUpdateFoldsOneByte : Obligations.CrcUpdateFoldsOneByte :=
  ⟨fun _ _ => rfl, encode_crcUpdate, illegalUnless_of_inRow (o := .crcUpdate) fun w h => by
    rw [← Laws.encode_command h]
    exact byteOperand_middle_zero _ _, by decide⟩

/-- Refutes O23: from `CRC_ACC = 0xF01F` a zero byte leads back to `0xF01F` (log 16). -/
theorem not_zeroByteChangesEveryNonzeroAccumulator :
    ¬ Obligations.ZeroByteChangesEveryNonzeroAccumulator := fun h =>
  h { State.midFrames with crcAcc := 0xF01F } _ rfl (by decide) (exec_crcUpdate _ _)
    crcStep_secondFixedPoint

/-- Settles O24: the response is the definition of `CRC.READ`. -/
theorem crcReadReturnsTheAccumulator : Obligations.CrcReadReturnsTheAccumulator :=
  ⟨fun _ => rfl, by decide⟩

/-! ## `CRC.COMPUTE` (R108) -/

/-- `CRC.FEED` folds its bytes, one `OK` response for each, whatever commands follow. -/
theorem runCommands_crcFeed_append (bytes : List Byte) (later : List Instr) (s : State) :
    runCommands (crcFeedCommands bytes ++ later) s = runCommands later { s with
      crcAcc := crcFold s.cfg.poly s.crcAcc bytes
      responses := s.responses ++ okResponses bytes.length } := by
  induction bytes generalizing s with
  | nil => simp [crcFeedCommands, okResponses]
  | cons b rest ih =>
    have first : runCommands (crcFeedCommands (b :: rest) ++ later) s =
        runCommands (crcFeedCommands rest ++ later)
          ((s.setCrcAcc (crcStep s.cfg.poly s.crcAcc b)).respond .ok 0) :=
      runCommands_cons_of_next (exec_crcUpdate b s)
    rw [first, ih]
    simp [State.setCrcAcc, State.respond, okResponses, List.replicate_succ]

theorem runCommands_crcCompute (s : State) (c : Half) (bytes : List Byte) :
    runCommands (crcComputeCommands c bytes) s = .next { s with
      crcAcc := crcFold s.cfg.poly c bytes
      responses := s.responses ++ okResponses (bytes.length + 1) ++
        [⟨.ok, crcFold s.cfg.poly c bytes⟩] } := by
  have load : runCommands (crcComputeCommands c bytes) s =
      runCommands (crcFeedCommands bytes ++ [.crcRead]) ((s.setCrcAcc c).respond .ok 0) := by
    simp only [crcComputeCommands, List.cons_append]
    exact runCommands_cons_of_next rfl
  rw [load, runCommands_crcFeed_append, runCommands_cons_of_next rfl]
  simp [runCommands, State.setCrcAcc, State.respond, okResponses, List.replicate_succ]

/-- Settles O27, with `crcFold_append` for the chunk that starts from an earlier result. -/
theorem computeSequenceReturnsTheFold : Obligations.ComputeSequenceReturnsTheFold :=
  ⟨runCommands_crcCompute, fun s c => by simp [runCommands_crcCompute, okResponses],
    fun s c a b => ⟨_, runCommands_crcCompute s _ b, by simp [crcFold_append]⟩⟩

end Sys2Proof.Machine
end

section
/-! R100, R101, R110: bit vectors and messages as polynomials over GF(2), the fold as a remainder, and
what a change in a window of 16 bits does to it. -/

namespace Sys2Proof.Machine

open Polynomial

/-! ## Bit vectors -/

section
variable {n m : Nat}

@[simp] theorem coeff_asPolynomial (v : BitVec n) (k : Nat) :
    (asPolynomial v).coeff k = if v.getLsbD k then 1 else 0 := by
  have term : ∀ i, (if v.getLsbD i then X ^ i else 0 : (ZMod 2)[X]).coeff k =
      if k = i then if v.getLsbD i then 1 else 0 else 0 := fun i => by
    cases v.getLsbD i <;> simp [coeff_X_pow]
  simp only [asPolynomial, finsetSum_coeff, term, Finset.sum_ite_eq, Finset.mem_range]
  by_cases hk : k < n
  · simp [hk]
  · simp [hk, BitVec.getLsbD_of_ge v k (Nat.not_lt.mp hk)]

theorem degree_asPolynomial_lt (v : BitVec n) : (asPolynomial v).degree < n :=
  (degree_lt_iff_coeff_zero _ _).mpr fun k hk => by simp [BitVec.getLsbD_of_ge v k hk]

/-- Over GF(2) a difference of two bits is zero exactly if they are the same. -/
theorem bit_sub_bit_eq_zero_iff (a b : Bool) :
    (if a then 1 else 0 : ZMod 2) - (if b then 1 else 0) = 0 ↔ a = b := by
  revert a b
  decide

theorem asPolynomial_injective : Function.Injective (asPolynomial (n := n)) := fun v w h =>
  BitVec.eq_of_getLsbD_eq fun k _ => by
    rw [← bit_sub_bit_eq_zero_iff, ← coeff_asPolynomial, ← coeff_asPolynomial, h, sub_self]

@[simp] theorem asPolynomial_zero : asPolynomial (0 : BitVec n) = 0 := by
  ext k
  simp

theorem asPolynomial_xor (v w : BitVec n) :
    asPolynomial (v ^^^ w) = asPolynomial v + asPolynomial w := by
  ext k
  have bits : ∀ a b : Bool, (if (a ^^ b) then 1 else 0 : ZMod 2) =
      (if a then 1 else 0) + (if b then 1 else 0) := by decide
  simp only [coeff_asPolynomial, coeff_add, BitVec.getLsbD_xor, bits]

theorem asPolynomial_append (v : BitVec n) (w : BitVec m) :
    asPolynomial (v ++ w) = asPolynomial v * X ^ m + asPolynomial w := by
  ext k
  rw [coeff_add, coeff_mul_X_pow']
  simp only [coeff_asPolynomial, BitVec.getLsbD_append]
  by_cases hk : k < m
  · simp [hk, Nat.not_le.mpr hk]
  · simp [hk, Nat.not_lt.mp hk]

end

/-- The byte of a turn of R100, moved to the high half. -/
theorem asPolynomial_highByte (b : Byte) :
    asPolynomial (b.setWidth 16 <<< 8) = asPolynomial b * X ^ 8 := by
  have append : b.setWidth 16 <<< 8 = b ++ 0#8 := by
    apply BitVec.eq_of_getLsbD_eq
    intro k hk
    rw [BitVec.getLsbD_append, BitVec.getLsbD_shiftLeft, BitVec.getLsbD_setWidth]
    by_cases h : k < 8
    · simp [h]
    · simp [h, hk, show k - 8 < 16 by omega]
  rw [append, asPolynomial_append]
  exact (congrArg _ asPolynomial_zero).trans (add_zero _)

/-- Shifting left drops bit 15, which stands for `x^16` after the shift. -/
theorem asPolynomial_mul_X (c : Half) :
    asPolynomial c * X = (if c.msb then X ^ 16 else 0) + asPolynomial (c <<< 1) := by
  have top : c.msb = c.getLsbD 15 := BitVec.msb_eq_getLsbD_last c
  simp only [top]
  ext k
  cases k with
  | zero => cases c.getLsbD 15 <;> simp
  | succ k =>
    rw [coeff_mul_X, coeff_add, coeff_asPolynomial, coeff_asPolynomial, BitVec.getLsbD_shiftLeft]
    rcases Nat.lt_trichotomy k 15 with hk | rfl | hk
    · cases c.getLsbD 15 <;> simp [coeff_X_pow, hk.ne, show k + 1 < 16 by omega]
    · cases c.getLsbD 15 <;> simp
    · rw [BitVec.getLsbD_of_ge c k hk]
      cases c.getLsbD 15 <;> simp [coeff_X_pow, hk.ne', hk.le]

/-! ## Messages -/

theorem bitAt_cons_of_lt (b : Byte) (rest : List Byte) {k : Nat} (hk : k < 8) :
    bitAt (b :: rest) k = b.getLsbD (7 - k) := by
  simp [bitAt, Nat.div_eq_of_lt hk, Nat.mod_eq_of_lt hk, BitVec.getMsbD_eq_getLsbD, hk]

theorem bitAt_cons_add (b : Byte) (rest : List Byte) (k : Nat) :
    bitAt (b :: rest) (8 + k) = bitAt rest k := by
  simp [bitAt, show (8 + k) / 8 = k / 8 + 1 by omega]

/-- The bit `k` of a sequence of `n` bytes is the coefficient of `x^(8n - 1 - k)`. -/
theorem coeff_messagePolynomial (bytes : List Byte) (e : Nat) :
    (messagePolynomial bytes).coeff e =
      if e < 8 * bytes.length ∧ bitAt bytes (8 * bytes.length - 1 - e) then 1 else 0 := by
  induction bytes with
  | nil => simp [messagePolynomial]
  | cons b rest ih =>
    rw [messagePolynomial, coeff_add, coeff_mul_X_pow', ih, coeff_asPolynomial, List.length_cons]
    by_cases hlow : e < 8 * rest.length
    · have hlt : e < 8 * (rest.length + 1) := by omega
      have index : 8 * (rest.length + 1) - 1 - e = 8 + (8 * rest.length - 1 - e) := by omega
      simp [index, bitAt_cons_add, hlow, hlt, Nat.not_le.mpr hlow]
    by_cases hhigh : e < 8 * (rest.length + 1)
    · have index : 7 - (8 * (rest.length + 1) - 1 - e) = e - 8 * rest.length := by omega
      rw [bitAt_cons_of_lt b rest (by omega), index]
      simp [hlow, hhigh, Nat.not_lt.mp hlow]
    · simp [hlow, hhigh, BitVec.getLsbD_of_ge b (e - 8 * rest.length) (by omega)]

/-! ## The generator and the fold's remainder (R100, R101) -/

/-- The generator `x^16 + POLY` (R100). -/
noncomputable abbrev generator (poly : Half) : (ZMod 2)[X] := X ^ 16 + asPolynomial poly

theorem degree_generator (poly : Half) : (generator poly).degree = 16 :=
  (degree_add_eq_left_of_degree_lt (by simpa using degree_asPolynomial_lt poly)).trans
    (degree_X_pow 16)

/-- The residue of a polynomial modulo the generator. -/
noncomputable abbrev residue (poly : Half) : (ZMod 2)[X] →+* AdjoinRoot (generator poly) :=
  AdjoinRoot.mk (generator poly)

section
variable (poly c : Half)

theorem residue_X_pow_sixteen : residue poly (X ^ 16) = residue poly (asPolynomial poly) := by
  have zero : residue poly (X ^ 16 + asPolynomial poly) = 0 := AdjoinRoot.mk_self
  have double : asPolynomial poly + asPolynomial poly = 0 := CharTwo.add_self_eq_zero _
  calc residue poly (X ^ 16)
      = residue poly (X ^ 16 + asPolynomial poly + asPolynomial poly) := by
        rw [add_assoc, double, add_zero]
    _ = residue poly (asPolynomial poly) := by rw [map_add, zero, zero_add]

/-- One turn of the loop multiplies by `x`. -/
theorem residue_crcShift : residue poly (asPolynomial (crcShift poly c)) =
    residue poly (asPolynomial c * X) := by
  rw [asPolynomial_mul_X, map_add, crcShift]
  split
  · rw [residue_X_pow_sixteen, asPolynomial_xor, map_add, add_comm]
  · rw [map_zero, zero_add]

theorem residue_crcShifts (n : Nat) : residue poly (asPolynomial (crcShifts poly n c)) =
    residue poly (asPolynomial c * X ^ n) := by
  induction n generalizing c with
  | zero => simp
  | succ n ih =>
    rw [crcShifts_succ, ih, map_mul, residue_crcShift, ← map_mul, mul_assoc, ← pow_succ']

theorem residue_crcStep (b : Byte) : residue poly (asPolynomial (crcStep poly c b)) =
    residue poly (asPolynomial c * X ^ 8 + X ^ 16 * asPolynomial b) := by
  rw [crcStep, residue_crcShifts, asPolynomial_xor, asPolynomial_highByte]
  congr 1
  ring

/-- R101: the fold divides the start value, followed by the message and 16 zero bits. -/
theorem residue_crcFold (bytes : List Byte) : residue poly (asPolynomial (crcFold poly c bytes)) =
    residue poly (asPolynomial c * X ^ (8 * bytes.length) + X ^ 16 * messagePolynomial bytes) := by
  induction bytes generalizing c with
  | nil => simp [messagePolynomial]
  | cons b rest ih =>
    have whole : (asPolynomial c * X ^ 8 + X ^ 16 * asPolynomial b) * X ^ (8 * rest.length) +
        X ^ 16 * messagePolynomial rest =
        asPolynomial c * X ^ (8 * (b :: rest).length) + X ^ 16 * messagePolynomial (b :: rest) := by
      rw [messagePolynomial, List.length_cons]
      ring
    rw [crcFold_cons, ih, ← whole, map_add, map_mul, residue_crcStep, ← map_mul, ← map_add]

/-- A polynomial below the generator's degree is its own remainder. -/
theorem eq_zero_of_residue_eq_zero {p : (ZMod 2)[X]} (hdeg : p.degree < 16)
    (h : residue poly p = 0) : p = 0 :=
  eq_zero_of_dvd_of_degree_lt (AdjoinRoot.mk_eq_zero.mp h) (by rwa [degree_generator])

end

/-- Settles O25: the residues of the two sides are equal, and the quotient is that of their
difference. -/
theorem foldIsThePolynomialRemainder : Obligations.FoldIsThePolynomialRemainder := by
  intro poly c bytes
  obtain ⟨q, hq⟩ := AdjoinRoot.mk_eq_mk.mp (residue_crcFold poly c bytes).symm
  exact ⟨q, by rw [← sub_eq_iff_eq_add, hq, mul_comm]⟩

/-! ## A change in a window of 16 bits is detected (R110) -/

theorem isCoprime_X_generator {poly : Half} (hodd : poly.getLsbD 0 = true) :
    IsCoprime X (generator poly) := by
  rw [irreducible_X.coprime_iff_not_dvd, X_dvd_iff]
  simp [hodd]

/-- Modulo a generator with `POLY[0] = 1`, factors `x` cancel. -/
theorem residue_eq_zero_of_X_pow_mul {poly : Half} (hodd : poly.getLsbD 0 = true) {n : Nat}
    {p : (ZMod 2)[X]} (h : residue poly (X ^ n * p) = 0) : residue poly p = 0 :=
  AdjoinRoot.mk_eq_zero.mpr
    ((isCoprime_X_generator hodd).symm.pow_right.dvd_of_dvd_mul_left (AdjoinRoot.mk_eq_zero.mp h))

/-- Bits that differ are coefficients of the messages' difference. -/
theorem coeff_messagePolynomial_sub_eq_zero_iff {u v : List Byte} (hlen : u.length = v.length)
    {e : Nat} (he : e < 8 * u.length) :
    (messagePolynomial u - messagePolynomial v).coeff e = 0 ↔
      bitAt u (8 * u.length - 1 - e) = bitAt v (8 * u.length - 1 - e) := by
  rw [coeff_sub, coeff_messagePolynomial, coeff_messagePolynomial, ← hlen]
  simpa only [he, true_and] using bit_sub_bit_eq_zero_iff _ _

theorem coeff_messagePolynomial_of_ge {bytes : List Byte} {e : Nat} (he : 8 * bytes.length ≤ e) :
    (messagePolynomial bytes).coeff e = 0 := by
  rw [coeff_messagePolynomial, if_neg (by omega)]

/-- Sequences of one length with the same bits are equal. -/
theorem eq_of_bitAt_eq {u v : List Byte} (hlen : u.length = v.length)
    (h : ∀ k, k < 8 * u.length → bitAt u k = bitAt v k) : u = v := by
  refine List.ext_getElem hlen fun i hu hv => BitVec.eq_of_getMsbD_eq fun j hj => ?_
  have bit := h (8 * i + j) (by omega)
  have index : (8 * i + j) / 8 = i := by omega
  have offset : (8 * i + j) % 8 = j := by omega
  simpa only [bitAt, index, offset, List.getD_eq_getElem _ _ hu, List.getD_eq_getElem _ _ hv]
    using bit

/-- A difference of messages inside a window of 16 bits is a power of `x` times a polynomial below
the generator's degree. -/
theorem exists_factor_of_window {u v : List Byte} (hlen : u.length = v.length) {start : Nat}
    (hwindow : ∀ k, k < 8 * u.length → bitAt u k ≠ bitAt v k → start ≤ k ∧ k < start + 16) :
    ∃ (n : Nat) (w : (ZMod 2)[X]), w.degree < 16 ∧
      messagePolynomial u - messagePolynomial v = X ^ n * w := by
  have outside : ∀ e, e < 8 * u.length - (start + 16) ∨ 8 * u.length - (start + 16) + 16 ≤ e →
      (messagePolynomial u - messagePolynomial v).coeff e = 0 := fun e he => by
    by_cases hlt : e < 8 * u.length
    · rw [coeff_messagePolynomial_sub_eq_zero_iff hlen hlt]
      by_contra hne
      have := hwindow (8 * u.length - 1 - e) (by omega) hne
      omega
    · rw [coeff_sub, coeff_messagePolynomial_of_ge (by omega),
        coeff_messagePolynomial_of_ge (by omega), sub_zero]
  obtain ⟨w, hw⟩ := X_pow_dvd_iff.mpr fun e he => outside e (.inl he)
  refine ⟨_, w, (degree_lt_iff_coeff_zero w 16).mpr fun e he => ?_, hw⟩
  rw [← coeff_X_pow_mul w (8 * u.length - (start + 16)) e, ← hw]
  exact outside _ (.inr (by omega))

/-- With `POLY[0] = 1`, a change inside a window of 16 bits changes the fold. -/
theorem crcFold_ne_of_differInWindow {poly : Half} (hodd : poly.getLsbD 0 = true) (c : Half)
    {u v : List Byte} (h : differInWindow u v) : crcFold poly c u ≠ crcFold poly c v := by
  obtain ⟨hlen, hne, start, hwindow⟩ := h
  obtain ⟨n, w, hdeg, hdiff⟩ := exists_factor_of_window hlen hwindow
  intro hfold
  have same : residue poly (X ^ 16 * (messagePolynomial u - messagePolynomial v)) = 0 := by
    have hu := residue_crcFold poly c u
    rw [hfold, residue_crcFold, hlen, map_add, map_add] at hu
    rw [mul_sub, map_sub, add_left_cancel hu, sub_self]
  have zero : messagePolynomial u - messagePolynomial v = 0 := by
    have factor := residue_eq_zero_of_X_pow_mul hodd same
    rw [hdiff] at factor ⊢
    rw [eq_zero_of_residue_eq_zero poly hdeg (residue_eq_zero_of_X_pow_mul hodd factor), mul_zero]
  refine hne (eq_of_bitAt_eq hlen fun k hk => ?_)
  have bit := (coeff_messagePolynomial_sub_eq_zero_iff hlen
    (show 8 * u.length - 1 - k < 8 * u.length by omega)).mp (by rw [zero, coeff_zero])
  rwa [show 8 * u.length - 1 - (8 * u.length - 1 - k) = k by omega] at bit

end Sys2Proof.Machine
end

section
/-! R109, R110: what the CRC at the end of a frame detects. -/

namespace Sys2Proof.Machine

/-! ## A CRC followed by its own bytes (R109) -/

theorem messagePolynomial_ownBytes (c : Half) :
    messagePolynomial [c.extractLsb' 8 8, c.extractLsb' 0 8] = asPolynomial c := by
  have whole : c.extractLsb' 8 8 ++ c.extractLsb' 0 8 = c := joinCrc_splitCrc .be c
  have split := asPolynomial_append (c.extractLsb' 8 8) (c.extractLsb' 0 8)
  simpa [messagePolynomial, whole] using split.symm

/-- The start value and its own bytes both stand for `c * x^16`, and over GF(2) the two cancel. -/
theorem crcFold_ownBytes (poly c : Half) :
    crcFold poly c [c.extractLsb' 8 8, c.extractLsb' 0 8] = 0 := by
  have cancel : residue poly
      (asPolynomial (crcFold poly c [c.extractLsb' 8 8, c.extractLsb' 0 8])) = 0 := by
    rw [residue_crcFold, messagePolynomial_ownBytes, mul_comm]
    exact (congrArg _ (CharTwo.add_self_eq_zero _)).trans (map_zero _)
  have zero := eq_zero_of_residue_eq_zero poly (degree_asPolynomial_lt _) cancel
  exact asPolynomial_injective (zero.trans asPolynomial_zero.symm)

theorem crcOf_append_splitCrc {p : Params} (payload : List Byte) (hbe : p.crcOrder = .be) :
    crcOf p (payload ++ [(splitCrc p.crcOrder (crcOf p payload)).1,
      (splitCrc p.crcOrder (crcOf p payload)).2]) = 0 := by
  rw [hbe]
  exact (crcFold_append _ _ _ _).trans (crcFold_ownBytes p.poly (crcOf p payload))

/-- Settles O28: the payload folds to its CRC, which its own bytes fold to zero. -/
theorem ownCrcBytesFoldToZero : Obligations.OwnCrcBytesFoldToZero :=
  ⟨crcFold_ownBytes, fun _ payload => crcOf_append_splitCrc payload⟩

/-! ## The last two bytes of a frame -/

@[simp] theorem splitCrc_joinCrc (order : CrcOrder) (first second : Byte) :
    splitCrc order (joinCrc order first second) = (first, second) := by
  cases order with
  | be => exact Prod.ext BitVec.extractLsb'_append_eq_left BitVec.extractLsb'_append_eq_right
  | le => exact Prod.ext BitVec.extractLsb'_append_eq_right BitVec.extractLsb'_append_eq_left

theorem joinCrc_inj {order : CrcOrder} {a b a' b' : Byte}
    (h : joinCrc order a b = joinCrc order a' b') : a = a' ∧ b = b' := by
  simpa using congrArg (splitCrc order) h

section
variable {bytes : List Byte}

theorem payloadOf_append_last (h : 2 ≤ bytes.length) :
    payloadOf bytes ++ [bytes.getD (bytes.length - 2) 0, bytes.getD (bytes.length - 1) 0] =
      bytes := by
  have last : bytes.drop (bytes.length - 2) =
      [bytes.getD (bytes.length - 2) 0, bytes.getD (bytes.length - 1) 0] := by
    rw [List.drop_eq_getElem_cons (by omega), List.drop_eq_getElem_cons (by omega),
      List.drop_eq_nil_of_le (by omega), List.getD_eq_getElem _ _ (by omega),
      List.getD_eq_getElem _ _ (by omega)]
    simp only [show bytes.length - 2 + 1 = bytes.length - 1 by omega]
  rw [payloadOf, ← last, List.take_append_drop]

/-- A frame that ends in its CRC, high byte first, folds to zero (R109). -/
theorem crcOf_eq_zero_of_endsInCrc {p : Params} (hbe : p.crcOrder = .be) (h : endsInCrc p bytes) :
    crcOf p bytes = 0 := by
  obtain ⟨hlen, hcrc⟩ := h
  have zero := crcOf_append_splitCrc (payloadOf bytes) hbe
  rwa [← hcrc, splitCrc_joinCrc, payloadOf_append_last hlen] at zero

@[simp] theorem length_payloadOf : (payloadOf bytes).length = bytes.length - 2 := by
  simp [payloadOf]

theorem getD_payloadOf {k : Nat} (hk : k < bytes.length - 2) :
    (payloadOf bytes).getD k 0 = bytes.getD k 0 := by
  rw [payloadOf, List.getD_eq_getElem?_getD, List.getElem?_take_of_lt hk,
    List.getD_eq_getElem?_getD]

theorem payloadOf_set (k : Nat) (b : Byte) :
    payloadOf (bytes.set k b) = (payloadOf bytes).set k b := by
  rw [payloadOf, List.length_set, List.take_set, payloadOf]

theorem getD_set_of_ne {i k : Nat} (h : k ≠ i) (b : Byte) :
    (bytes.set k b).getD i 0 = bytes.getD i 0 := by
  rw [List.getD_eq_getElem?_getD, List.getElem?_set_ne h, List.getD_eq_getElem?_getD]

theorem getD_set_self {k : Nat} (h : k < bytes.length) (b : Byte) :
    (bytes.set k b).getD k 0 = b := by
  rw [List.getD_eq_getElem?_getD, List.getElem?_set_self h, Option.getD_some]

/-- One replaced byte is a change in a window of 16 bits. -/
theorem differInWindow_set {k : Nat} {b : Byte} (hk : k < bytes.length)
    (hne : bytes.getD k 0 ≠ b) : differInWindow bytes (bytes.set k b) := by
  refine ⟨List.length_set.symm, fun same => hne ?_, 8 * k, fun i _ hi => ?_⟩
  · rw [same, getD_set_self hk]
  · have inside : k = i / 8 := by
      by_contra houtside
      exact hi (by rw [bitAt, bitAt, getD_set_of_ne houtside])
    omega

end

/-! ## Changes that are detected (R110) -/

/-- Settles O29: a replaced payload byte changes the computed CRC, a replaced CRC byte the
received one. -/
theorem oneReplacedByteIsDetected : Obligations.OneReplacedByteIsDetected := by
  rintro p bytes k b hodd ⟨hlen, hcrc⟩ hk hne ⟨-, hcrc'⟩
  rw [payloadOf_set, List.length_set] at hcrc'
  by_cases hpayload : k < bytes.length - 2
  · rw [getD_set_of_ne (by omega), getD_set_of_ne (by omega), hcrc] at hcrc'
    have window : differInWindow (payloadOf bytes) ((payloadOf bytes).set k b) :=
      differInWindow_set (by simpa using hpayload) (by rwa [getD_payloadOf hpayload])
    exact crcFold_ne_of_differInWindow hodd p.seed window hcrc'
  · have kept : (payloadOf bytes).set k b = payloadOf bytes :=
      List.set_eq_of_length_le (by rw [length_payloadOf]; omega)
    rw [kept, ← hcrc] at hcrc'
    obtain ⟨hfirst, hsecond⟩ := joinCrc_inj hcrc'
    have same : (bytes.set k b).getD k 0 = bytes.getD k 0 := by
      obtain rfl | rfl : k = bytes.length - 2 ∨ k = bytes.length - 1 := by omega
      · exact hfirst
      · exact hsecond
    exact hne (same.symm.trans (getD_set_self hk b))

/-- Settles O30: both frames would fold to zero, and the change changes the fold. -/
theorem shortBurstIsDetectedHighByteFirst : Obligations.ShortBurstIsDetectedHighByteFirst :=
  fun p _ _ hodd hbe hu hwindow hv =>
    crcFold_ne_of_differInWindow hodd p.seed hwindow
      ((crcOf_eq_zero_of_endsInCrc hbe hu).trans (crcOf_eq_zero_of_endsInCrc hbe hv).symm)

/-- `DEFAULT` but for the CRC's low byte first (R52). -/
def lowByteFirst : Params := { Params.defaultProfile 16 with crcOrder := .le }

/-- Refutes O31: with the low byte first both `00 F0 E1` and `89 51 E1` end in their CRC, and they
differ in their first 16 bits only (log 14). -/
theorem not_shortBurstIsDetectedInEitherOrder :
    ¬ Obligations.ShortBurstIsDetectedInEitherOrder := by
  intro h
  have window : differInWindow [0x00, 0xF0, 0xE1] [0x89, 0x51, 0xE1] :=
    ⟨rfl, by decide, 0, by decide⟩
  exact h lowByteFirst _ _ (by decide) (by decide) window (by decide)

end Sys2Proof.Machine
end

section
/-! R130, R135, R136: escaped bytes and frames as lists of wire bytes. -/

namespace Sys2Proof.Machine

/-! ## One escaped byte (R130) -/

theorem escape_of_reserved {p : Params} {b : Byte} (h : p.reserved b = true) :
    escape p b = [p.esc, b ^^^ p.xmask] := by
  simp [escape, h]

theorem escape_of_not_reserved {p : Params} {b : Byte} (h : p.reserved b = false) :
    escape p b = [b] := by
  simp [escape, h]

/-- Settles O32: `reserved_iff` for any parameter set; `DEFAULT` has no `EXTRA`. -/
theorem escapedFormOfAByte : Obligations.EscapedFormOfAByte := by
  have escaped {p : Params} {b : Byte} (h : b = p.flag ∨ b = p.esc ∨ b ∈ p.extra) :
      escape p b = [p.esc, b ^^^ p.xmask] :=
    escape_of_reserved ((reserved_iff p b).mpr h)
  have raw {p : Params} {b : Byte} (h : ¬ (b = p.flag ∨ b = p.esc ∨ b ∈ p.extra)) :
      escape p b = [b] :=
    escape_of_not_reserved (Bool.eq_false_iff.mpr (mt (reserved_iff p b).mp h))
  refine ⟨fun p b => ⟨escaped, raw⟩, escapeAll_nil, escapeAll_cons, fun n => ⟨?_, ?_, ?_⟩⟩
  · simpa [Params.defaultProfile] using escaped (p := Params.defaultProfile n) (.inl rfl)
  · simpa [Params.defaultProfile] using escaped (p := Params.defaultProfile n) (.inr (.inl rfl))
  · exact fun b hflag hesc => raw (by simpa [Params.defaultProfile] using ⟨hflag, hesc⟩)

theorem escape_length_pos (p : Params) (b : Byte) : 1 ≤ (escape p b).length := by
  cases h : p.reserved b with
  | true => simp [escape_of_reserved h]
  | false => simp [escape_of_not_reserved h]

theorem escape_length_le_two (p : Params) (b : Byte) : (escape p b).length ≤ 2 := by
  cases h : p.reserved b with
  | true => simp [escape_of_reserved h]
  | false => simp [escape_of_not_reserved h]

/-! ## Escaped sequences -/

theorem escapeAll_append (p : Params) (u v : List Byte) :
    escapeAll p (u ++ v) = escapeAll p u ++ escapeAll p v := by
  induction u with
  | nil => rfl
  | cons b rest ih => simp [ih]

theorem length_le_escapeAll_length (p : Params) (bytes : List Byte) :
    bytes.length ≤ (escapeAll p bytes).length := by
  induction bytes with
  | nil => simp
  | cons b rest ih =>
    have := escape_length_pos p b
    simp only [escapeAll_cons, List.length_append, List.length_cons]
    omega

theorem escapeAll_length_le (p : Params) (bytes : List Byte) :
    (escapeAll p bytes).length ≤ 2 * bytes.length := by
  induction bytes with
  | nil => simp
  | cons b rest ih =>
    have := escape_length_le_two p b
    simp only [escapeAll_cons, List.length_append, List.length_cons]
    omega

section
variable {p : Params}

/-- R6 as escaping uses it: a reserved byte's escaped form is neither `FLAG` nor `ESC`. -/
theorem escapedForm_free (hwf : p.wellFormed = true) {r : Byte} (hr : p.reserved r = true) :
    r ^^^ p.xmask ≠ p.flag ∧ r ^^^ p.xmask ≠ p.esc := by
  obtain ⟨-, -, -, free⟩ := (wellFormed_iff p).mp hwf
  exact free r ((reserved_iff p r).mp hr)

theorem ne_flag_and_ne_esc_of_not_reserved {b : Byte} (h : p.reserved b = false) :
    b ≠ p.flag ∧ b ≠ p.esc := by
  have := mt (reserved_iff p b).mpr (by simp [h])
  exact ⟨fun hb => this (.inl hb), fun hb => this (.inr (.inl hb))⟩

theorem flag_not_mem_escape (hwf : p.wellFormed = true) (b : Byte) : p.flag ∉ escape p b := by
  obtain ⟨hne, -⟩ := (wellFormed_iff p).mp hwf
  cases h : p.reserved b with
  | true => simpa [escape_of_reserved h] using ⟨hne, (escapedForm_free hwf h).1.symm⟩
  | false =>
    simpa [escape_of_not_reserved h] using (ne_flag_and_ne_esc_of_not_reserved h).1.symm

theorem flag_not_mem_escapeAll (hwf : p.wellFormed = true) (bytes : List Byte) :
    p.flag ∉ escapeAll p bytes := by
  induction bytes with
  | nil => simp
  | cons b rest ih => simpa using ⟨flag_not_mem_escape hwf b, ih⟩

/-- In an escaped sequence `ESC` stands only before the escaped form of a reserved byte. -/
theorem escapeAll_after_esc (hwf : p.wellFormed = true) (bytes : List Byte) {k : Nat}
    (hk : (escapeAll p bytes)[k]? = some p.esc) :
    ∃ r, p.reserved r = true ∧ (escapeAll p bytes)[k + 1]? = some (r ^^^ p.xmask) := by
  induction bytes generalizing k with
  | nil => simp at hk
  | cons b rest ih =>
    cases h : p.reserved b with
    | true =>
      simp only [escapeAll_cons, escape_of_reserved h, List.cons_append, List.nil_append] at hk ⊢
      match k with
      | 0 => exact ⟨b, h, rfl⟩
      | 1 => exact absurd (Option.some.inj hk) (escapedForm_free hwf h).2
      | k + 2 => exact ih hk
    | false =>
      simp only [escapeAll_cons, escape_of_not_reserved h, List.singleton_append] at hk ⊢
      match k with
      | 0 => exact absurd (Option.some.inj hk) (ne_flag_and_ne_esc_of_not_reserved h).2
      | k + 1 => exact ih hk

end

/-! ## Frames (R134, R135) -/

/-- R135: the unescaped bytes of a frame, the payload and its two CRC bytes (R52). -/
def framedBytes (p : Params) (payload : List Byte) : List Byte :=
  payload ++ [(splitCrc p.crcOrder (crcOf p payload)).1, (splitCrc p.crcOrder (crcOf p payload)).2]

@[simp] theorem length_framedBytes (p : Params) (payload : List Byte) :
    (framedBytes p payload).length = payload.length + 2 := by
  simp [framedBytes]

/-- A frame is the escaped form of its unescaped bytes between two `FLAG`s. -/
theorem frame_eq (p : Params) (payload : List Byte) :
    frame p payload = p.flag :: (escapeAll p (framedBytes p payload) ++ [p.flag]) := by
  simp [frame, closing, framedBytes, escapeAll_append]

theorem frame_length (p : Params) (payload : List Byte) :
    (frame p payload).length = (escapeAll p (framedBytes p payload)).length + 2 := by
  simp [frame_eq]

theorem le_frame_length (p : Params) (payload : List Byte) :
    payload.length + 4 ≤ (frame p payload).length := by
  have := length_le_escapeAll_length p (framedBytes p payload)
  rw [length_framedBytes] at this
  rw [frame_length]
  omega

theorem frame_length_le (p : Params) (payload : List Byte) :
    (frame p payload).length ≤ 2 * payload.length + 6 := by
  have := escapeAll_length_le p (framedBytes p payload)
  rw [length_framedBytes] at this
  rw [frame_length]
  omega

/-! ## A body between two delimiters -/

section
variable {d : Byte} {body : List Byte}

theorem getElem?_delimited_succ_of_ne {x : Byte} (hx : x ≠ d) (k : Nat) :
    (d :: (body ++ [d]))[k + 1]? = some x ↔ body[k]? = some x := by
  rw [List.getElem?_cons_succ]
  rcases lt_or_ge k body.length with hk | hk
  · rw [List.getElem?_append_left hk]
  · have outside : body[k]? ≠ some x := by simp [List.getElem?_eq_none hk]
    have atEnd : (body ++ [d])[k]? ≠ some x := by
      rw [List.getElem?_append_right hk, List.getElem?_singleton]
      simp [hx.symm]
    exact iff_of_false atEnd outside

/-- A delimiter that is not in the body stands at the two ends alone. -/
theorem getElem?_delimited_iff (h : d ∉ body) (k : Nat) :
    (d :: (body ++ [d]))[k]? = some d ↔ k = 0 ∨ k = body.length + 1 := by
  cases k with
  | zero => simp
  | succ k =>
    rw [List.getElem?_cons_succ]
    rcases lt_or_ge k body.length with hk | hk
    · have inside : (body ++ [d])[k]? ≠ some d := by
        rw [List.getElem?_append_left hk]
        exact fun hd => h (List.mem_of_getElem? hd)
      exact iff_of_false inside (by omega)
    · rw [List.getElem?_append_right hk, List.getElem?_singleton]
      simp only [ite_eq_left_iff, reduceCtorEq, imp_false, not_not, false_or]
      omega

end

/-- Settles O38: a frame is its escaped bytes, which hold no `FLAG`, between two `FLAG`s. -/
theorem frameHasFlagsOnlyAtItsEnds : Obligations.FrameHasFlagsOnlyAtItsEnds := by
  intro p payload hwf
  obtain ⟨hne, -⟩ := (wellFormed_iff p).mp hwf
  refine ⟨le_frame_length p payload, frame_length_le p payload, fun k => ?_, fun k hk => ?_⟩
  · rw [frame_length, frame_eq]
    exact getElem?_delimited_iff (flag_not_mem_escapeAll hwf _) k
  · rw [frame_eq] at hk ⊢
    cases k with
    | zero => exact absurd (Option.some.inj hk) hne
    | succ k =>
      have inBody := (getElem?_delimited_succ_of_ne hne.symm k).mp hk
      obtain ⟨r, hr, next⟩ := escapeAll_after_esc hwf _ inBody
      have free := escapedForm_free hwf hr
      exact ⟨r, hr, (getElem?_delimited_succ_of_ne free.1 (k + 1)).mpr next, free⟩

end Sys2Proof.Machine
end

section
/-! R131 to R135, R137: sending bytes, the TX commands and `TX.FRAME`. -/

namespace Sys2Proof.Machine

/-! ## Sending (R131) -/

section
variable {s : State} {bytes : List Byte}

theorem sendAndRespond_of_accepted (h : s.acceptsNext bytes.length) :
    s.sendAndRespond bytes = (s.afterAccepted bytes).respond .ok 0 := by
  simp [State.sendAndRespond, emitAll_accepted bytes s h]

theorem sendAndRespond_of_refused {k : Nat} (h : s.refusesAt bytes.length k) :
    s.sendAndRespond bytes =
      ((s.afterRefused bytes k).setTxState .idle).respond .transportWriteFailure 0 := by
  simp [State.sendAndRespond, emitAll_refused bytes s k h]

/-- What is sent, all of it or cut at a refused byte, is a front part of what is offered. -/
theorem sendAndRespond_wire (s : State) (bytes : List Byte) :
    ∃ k, (s.sendAndRespond bytes).wire = s.wire ++ bytes.take k := by
  rcases sendAndRespond_cases s bytes with ⟨_, h⟩ | ⟨k, _, h⟩
  · exact ⟨bytes.length, by rw [h, List.take_length]; rfl⟩
  · exact ⟨k, by rw [h]; rfl⟩

/-- Settles O33, by the two cases of sending. -/
theorem firstRefusedByteAbandonsTheFrame : Obligations.FirstRefusedByteAbandonsTheFrame :=
  fun s bytes => ⟨sendAndRespond_of_accepted, fun _ => sendAndRespond_of_refused,
    accepts_or_refuses s bytes.length⟩

end

/-! ## The TX commands (R132 to R134)

`TX.START` that is accepted or comes in a frame, and `TX.DATA` in a frame, stand with R57. -/

section
variable {s : State}

theorem exec_txStart_idle (h : s.txState = .idle) :
    exec .txStart s = .next
      (((s.setTxCrc s.cfg.seed).setTxState .inFrame).sendAndRespond [s.cfg.flag]) := by
  simp [exec, execTxStart, h]

/-- `TX.START` with a `FLAG` the transport refuses stays out of a frame (R132). -/
theorem exec_txStart_refused (hidle : s.txState = .idle) (hrefuse : s.answerAt 0 = .failed) :
    exec .txStart s = .next ((((s.setTxCrc s.cfg.seed).afterRefused [s.cfg.flag] 0).setTxState
      .idle).respond .transportWriteFailure 0) := by
  have refuses : ((s.setTxCrc s.cfg.seed).setTxState .inFrame).refusesAt [s.cfg.flag].length 0 :=
    ⟨Nat.one_pos, fun k hk => absurd hk k.not_lt_zero, hrefuse⟩
  rw [exec_txStart_idle hidle]
  exact congrArg _ (sendAndRespond_of_refused refuses)

theorem exec_txData_idle (b : Byte) (h : s.txState = .idle) :
    exec (.txData b) s = .next (s.respond .protocolViolation 0) := by
  simp [exec, execTxData, h]

theorem exec_txData_accepted (b : Byte) (hin : s.txState = .inFrame)
    (haccept : s.acceptsNext (escape s.cfg b).length) :
    exec (.txData b) s = .next (((s.setTxCrc (crcStep s.cfg.poly s.txCrc b)).afterAccepted
      (escape s.cfg b)).respond .ok 0) := by
  rw [exec_txData_inFrame b hin]
  exact congrArg _ (sendAndRespond_of_accepted haccept)

theorem exec_txData_refused (b : Byte) {k : Nat} (hin : s.txState = .inFrame)
    (hrefuse : s.refusesAt (escape s.cfg b).length k) :
    exec (.txData b) s = .next ((((s.setTxCrc (crcStep s.cfg.poly s.txCrc b)).afterRefused
      (escape s.cfg b) k).setTxState .idle).respond .transportWriteFailure 0) := by
  rw [exec_txData_inFrame b hin]
  exact congrArg _ (sendAndRespond_of_refused hrefuse)

theorem exec_txEnd_idle (h : s.txState = .idle) :
    exec .txEnd s = .next (s.respond .protocolViolation 0) := by
  simp [exec, execTxEnd, h]

theorem exec_txEnd_inFrame (h : s.txState = .inFrame) :
    exec .txEnd s = .next ((s.setTxState .idle).sendAndRespond (closing s.cfg s.txCrc)) := by
  simp [exec, execTxEnd, h]

theorem exec_txEnd_accepted (hin : s.txState = .inFrame)
    (haccept : s.acceptsNext (closing s.cfg s.txCrc).length) :
    exec .txEnd s = .next
      (((s.setTxState .idle).afterAccepted (closing s.cfg s.txCrc)).respond .ok 0) := by
  rw [exec_txEnd_inFrame hin]
  exact congrArg _ (sendAndRespond_of_accepted haccept)

theorem exec_txEnd_refused {k : Nat} (hin : s.txState = .inFrame)
    (hrefuse : s.refusesAt (closing s.cfg s.txCrc).length k) :
    exec .txEnd s = .next (((s.setTxState .idle).afterRefused
      (closing s.cfg s.txCrc) k).respond .transportWriteFailure 0) := by
  rw [exec_txEnd_inFrame hin]
  exact congrArg _ (sendAndRespond_of_refused hrefuse)

end

theorem encode_txData (b : Byte) : encode (.txData b) = 0x21000000 ||| b.setWidth 32 := by
  have widths : (b.setWidth 16).setWidth 32 = b.setWidth 32 :=
    BitVec.setWidth_setWidth (by omega)
  rw [← widths]
  exact Laws.append_eq_shiftLeft_or 0x21 (b.setWidth 16)

/-- The bytes that close a frame, with the two CRC bytes given for each order (R52). -/
theorem closing_eq {p : Params} {crc : Half} {c0 c1 : Byte}
    (hbe : p.crcOrder = .be → c0 = crc.extractLsb' 8 8 ∧ c1 = crc.extractLsb' 0 8)
    (hle : p.crcOrder = .le → c0 = crc.extractLsb' 0 8 ∧ c1 = crc.extractLsb' 8 8) :
    closing p crc = escape p c0 ++ escape p c1 ++ [p.flag] := by
  cases h : p.crcOrder with
  | be =>
    obtain ⟨rfl, rfl⟩ := hbe h
    simp only [closing, splitCrc, h]
  | le =>
    obtain ⟨rfl, rfl⟩ := hle h
    simp only [closing, splitCrc, h]

/-- Settles O34, clause by clause. -/
theorem txStartOpensAFrame : Obligations.TxStartOpensAFrame :=
  ⟨fun _ => exec_txStart_inFrame, fun _ => exec_txStart_accepted,
    fun s hidle hrefuse => by
      simp [exec_txStart_refused hidle hrefuse, State.afterRefused, State.setTxCrc,
        State.setTxState, State.respond, hidle],
    by decide⟩

/-- Settles O35, clause by clause. -/
theorem txDataSendsOneEscapedByte : Obligations.TxDataSendsOneEscapedByte :=
  ⟨fun b _ => exec_txData_idle b, fun b _ => exec_txData_accepted b,
    fun b _ _ => exec_txData_refused b, encode_txData⟩

/-- Settles O36: the bytes sent are `closing`, in either order of the CRC bytes. -/
theorem txEndClosesTheFrame : Obligations.TxEndClosesTheFrame := by
  refine ⟨fun s => exec_txEnd_idle, fun s c0 c1 hbe hle hin haccept => ?_,
    fun s c0 c1 k hbe hle hin hrefuse => ?_, by decide⟩
  · rw [← closing_eq hbe hle] at haccept ⊢
    exact exec_txEnd_accepted hin haccept
  · rw [← closing_eq hbe hle] at hrefuse ⊢
    exact exec_txEnd_refused hin hrefuse

/-! ## `TX.FRAME` (R135) -/

/-- Answers to come after bytes that went out are the later ones of before. -/
theorem answerAt_afterAccepted (s : State) (bytes : List Byte) (k : Nat) :
    (s.afterAccepted bytes).answerAt k = s.answerAt (bytes.length + k) := by
  simp [State.answerAt, State.afterAccepted, Nat.add_assoc]

theorem acceptsNext_mono {s : State} {m n : Nat} (h : s.acceptsNext n) (hmn : m ≤ n) :
    s.acceptsNext m := fun k hk => h k (by omega)

/-- A transport that accepts two sequences accepts the first, and after it the second. -/
theorem acceptsNext_append {s : State} {u v : List Byte} (h : s.acceptsNext (u ++ v).length) :
    s.acceptsNext u.length ∧ (s.afterAccepted u).acceptsNext v.length := by
  rw [List.length_append] at h
  refine ⟨acceptsNext_mono h (by omega), fun k hk => ?_⟩
  rw [answerAt_afterAccepted]
  exact h _ (by omega)

/-- `TX.DATA` for each byte of a payload, in a frame, whatever commands follow. -/
theorem runCommands_txData_append (payload : List Byte) (later : List Instr) {s : State}
    (hin : s.txState = .inFrame) (haccept : s.acceptsNext (escapeAll s.cfg payload).length) :
    runCommands (payload.map .txData ++ later) s = runCommands later
      { s.afterAccepted (escapeAll s.cfg payload) with
        txCrc := crcFold s.cfg.poly s.txCrc payload
        responses := s.responses ++ okResponses payload.length } := by
  induction payload generalizing s with
  | nil => simp [State.afterAccepted, okResponses]
  | cons b rest ih =>
    obtain ⟨now, after⟩ := acceptsNext_append haccept
    have first := runCommands_cons_of_next (rest := rest.map .txData ++ later)
      (exec_txData_accepted b hin now)
    have remaining := ih (s := ((s.setTxCrc (crcStep s.cfg.poly s.txCrc b)).afterAccepted
      (escape s.cfg b)).respond .ok 0) hin after
    rw [List.map_cons, List.cons_append, first, remaining]
    simp [State.setTxCrc, State.respond, State.afterAccepted, okResponses, List.replicate_succ,
      Nat.add_assoc]

theorem okResponses_add_two (n : Nat) :
    okResponses (n + 2) = [⟨.ok, 0⟩] ++ okResponses n ++ [⟨.ok, 0⟩] := by
  rw [okResponses, List.replicate_succ, List.replicate_succ']
  rfl

/-- Settles O37: `TX.START` sends the first `FLAG`, the payload bytes their escaped forms, and
`TX.END` the rest. -/
theorem txFrameSendsExactlyTheFrame : Obligations.TxFrameSendsExactlyTheFrame := by
  refine ⟨fun s payload hidle haccept => ?_, fun p payload => by simp [frame, closing]⟩
  have parts : frame s.cfg payload =
      [s.cfg.flag] ++ (escapeAll s.cfg payload ++ closing s.cfg (crcOf s.cfg payload)) := by
    simp [frame]
  rw [parts] at haccept ⊢
  obtain ⟨atStart, afterStart⟩ := acceptsNext_append haccept
  obtain ⟨atData, atEnd⟩ := acceptsNext_append afterStart
  have start := exec_txStart_accepted hidle (atStart 0 Nat.one_pos)
  refine Eq.trans (runCommands_cons_of_next start) ?_
  refine Eq.trans (runCommands_txData_append payload [.txEnd] rfl atData) ?_
  refine Eq.trans (runCommands_cons_of_next (exec_txEnd_accepted rfl atEnd)) ?_
  simp [runCommands, State.afterAccepted, State.respond, okResponses_add_two, hidle, crcOf,
    Nat.add_assoc, Nat.add_comm 1]

/-! ## How much a command emits (R137) -/

/-- The bytes a command offers to the transport in the state it is run in, if it offers any. -/
def offeredBytes (s : State) : Instr → List Byte
  | .txStart => [s.cfg.flag]
  | .txData b => escape s.cfg b
  | .txEnd => closing s.cfg s.txCrc
  | _ => []

theorem closing_length (p : Params) (crc : Half) : (closing p crc).length =
    (escape p (splitCrc p.crcOrder crc).1).length +
      (escape p (splitCrc p.crcOrder crc).2).length + 1 := by
  simp only [closing, List.length_append, List.length_singleton]

theorem offeredBytes_length_le_five (i : Instr) (s : State) : (offeredBytes s i).length ≤ 5 := by
  cases i with
  | txData b => exact (escape_length_le_two s.cfg b).trans (by decide)
  | txEnd =>
    have first := escape_length_le_two s.cfg (splitCrc s.cfg.crcOrder s.txCrc).1
    have second := escape_length_le_two s.cfg (splitCrc s.cfg.crcOrder s.txCrc).2
    have := closing_length s.cfg s.txCrc
    simp only [offeredBytes]
    omega
  | txStart => exact (by decide : 1 ≤ 5)
  | nop | reset | query | crcInit | crcLoad | crcUpdate | crcRead | rxByte =>
    exact Nat.zero_le 5

theorem closing_length_of_not_reserved {p : Params} {crc : Half}
    (first : p.reserved (splitCrc p.crcOrder crc).1 = false)
    (second : p.reserved (splitCrc p.crcOrder crc).2 = false) : (closing p crc).length = 3 := by
  simp [closing, escape_of_not_reserved first, escape_of_not_reserved second]

section
variable {i : Instr} {s t : State}

theorem exec_wire_of_violation_or_sending {P Q : Prop} {u : State} {bytes : List Byte}
    (h : P ∧ t = s.respond .protocolViolation 0 ∨ Q ∧ t = u.sendAndRespond bytes)
    (hu : u.wire = s.wire) : ∃ k, t.wire = s.wire ++ bytes.take k := by
  rcases h with ⟨_, rfl⟩ | ⟨_, rfl⟩
  · exact ⟨0, by simp⟩
  · rw [← hu]
    exact sendAndRespond_wire u bytes

/-- What a command puts on the wire is a front part of what it offers. -/
theorem exec_wire (h : exec i s = .next t) : ∃ k, t.wire = s.wire ++ (offeredBytes s i).take k := by
  cases i with
  | txStart => exact exec_wire_of_violation_or_sending (exec_txStart_next h) rfl
  | txData b => exact exec_wire_of_violation_or_sending (exec_txData_next h) rfl
  | txEnd => exact exec_wire_of_violation_or_sending (exec_txEnd_next h) rfl
  | nop | query | crcInit | crcLoad | crcUpdate | crcRead =>
    cases h; exact ⟨0, by simp⟩
  | reset mask => cases h; exact ⟨0, by simp [resetUnits_eq]⟩
  | rxByte b =>
    obtain ⟨u, hu, rfl⟩ := exec_rxByte_next h
    have kept : u.wire = s.wire := (congrArg State.wire (receive_frame hu)).trans rfl
    exact ⟨0, by simp [kept]⟩

end

/-- Settles O39: no command offers more than five bytes, and O54's statuses leave out
`CAPACITY_EXCEEDED`. -/
theorem noCommandEmitsMoreThanFiveBytes : Obligations.NoCommandEmitsMoreThanFiveBytes := by
  intro i s t h
  obtain ⟨k, hwire⟩ := exec_wire h
  obtain ⟨r, hr, hstatus, -, -⟩ := responsesAndTheirWords.1 i s t h
  have hlength : ((offeredBytes s i).take k).length ≤ (offeredBytes s i).length :=
    List.length_take_le' k _
  refine ⟨_, r, hwire, hlength.trans (offeredBytes_length_le_five i s), hr, ?_, ?_⟩
  · rcases hstatus with hs | hs | hs <;> simp [hs]
  · rintro rfl first second
    exact hlength.trans (closing_length_of_not_reserved first second).le

end Sys2Proof.Machine
end

section
/-! R135, R172, R253 (a): a frame on its way from a sender to a receiver. First the body of a frame
as the reference decoder reads it, then the receiver as it runs through a body, then the link. -/

namespace Sys2Proof.Machine

/-! ## The reference decoder undoes escaping (R130, R166, R167) -/

section
variable {p : Params} {b c : Byte}

theorem pairs_iff : pairs p c = true ↔
    c ≠ p.flag ∧ c ≠ p.esc ∧ p.reserved (c ^^^ p.xmask) = true := by
  simp [pairs, and_assoc]

/-- Escaping is undone by `XMASK` (R130, R167). -/
theorem escapedForm_xor_xmask (p : Params) (b : Byte) : (b ^^^ p.xmask) ^^^ p.xmask = b := by
  rw [BitVec.xor_assoc, BitVec.xor_self, BitVec.xor_zero]

/-- The escaped form of a reserved byte is a valid pair (R6, R167). -/
theorem pairs_escapedForm (hwf : p.wellFormed = true) (hb : p.reserved b = true) :
    pairs p (b ^^^ p.xmask) = true := by
  obtain ⟨hflag, hesc⟩ := escapedForm_free hwf hb
  exact pairs_iff.mpr ⟨hflag, hesc, by rwa [escapedForm_xor_xmask]⟩

theorem unescape_raw_cons (hflag : b ≠ p.flag) (hesc : b ≠ p.esc) (rest : List Byte) :
    unescape p (b :: rest) = (unescape p rest).map (b :: ·) := by
  cases rest with
  | nil => simp [unescape, hflag, hesc]
  | cons c rest => simp [unescape, hflag, hesc]

theorem unescape_pair_cons (hne : p.esc ≠ p.flag) (hc : pairs p c = true) (rest : List Byte) :
    unescape p (p.esc :: c :: rest) = (unescape p rest).map ((c ^^^ p.xmask) :: ·) := by
  simp [unescape, hne, hc]

/-- Bytes `body` that `unescape` to `u`, as a relation: raw bytes and valid pairs in any order. -/
inductive Unescapes (p : Params) : List Byte → List Byte → Prop
  | nil : Unescapes p [] []
  | raw {b : Byte} {rest v : List Byte} (hflag : b ≠ p.flag) (hesc : b ≠ p.esc) :
      Unescapes p rest v → Unescapes p (b :: rest) (b :: v)
  | pair {c : Byte} {rest v : List Byte} (hne : p.esc ≠ p.flag) (hc : pairs p c = true) :
      Unescapes p rest v → Unescapes p (p.esc :: c :: rest) ((c ^^^ p.xmask) :: v)

theorem unescapes_iff {body u : List Byte} : Unescapes p body u ↔ unescape p body = some u := by
  refine ⟨fun h => ?_, fun h => ?_⟩
  · induction h with
    | nil => simp [unescape]
    | raw hflag hesc _ ih => rw [unescape_raw_cons hflag hesc, ih]; rfl
    | pair hne hc _ ih => rw [unescape_pair_cons hne hc, ih]; rfl
  · fun_induction unescape p body generalizing u with
    | case1 => cases h; exact .nil
    | case2 | case4 | case6 => cases h
    | case3 b hb =>
      cases h
      obtain ⟨hflag, hesc⟩ := not_or.mp hb
      exact .raw hflag hesc .nil
    | case5 c rest hc hne ih =>
      obtain ⟨v, hv, rfl⟩ := Option.map_eq_some_iff.mp h
      exact .pair hne hc (ih hv)
    | case7 b c rest hflag hesc ih =>
      obtain ⟨v, hv, rfl⟩ := Option.map_eq_some_iff.mp h
      exact .raw hflag hesc (ih hv)

theorem unescape_escapeAll (hwf : p.wellFormed = true) (bytes : List Byte) :
    unescape p (escapeAll p bytes) = some bytes := by
  obtain ⟨hne, -⟩ := (wellFormed_iff p).mp hwf
  rw [← unescapes_iff]
  induction bytes with
  | nil => exact .nil
  | cons b rest ih =>
    cases h : p.reserved b with
    | true =>
      have whole := Unescapes.pair hne.symm (pairs_escapedForm hwf h) ih
      rw [escapedForm_xor_xmask] at whole
      simpa [escape_of_reserved h] using whole
    | false =>
      obtain ⟨hflag, hesc⟩ := ne_flag_and_ne_esc_of_not_reserved h
      simpa [escape_of_not_reserved h] using Unescapes.raw hflag hesc ih

end

/-! ## One received byte, by `RX_STATE` (R165 to R168) -/

section
variable {s t : State} {b : Byte}

theorem exec_rxByte_of_receive (h : s.receive b = some t) :
    exec (.rxByte b) s = .next (t.respond .ok 0) := by
  simp [exec, execRxByte, h]

theorem receive_hunt_flag (h : s.rxState = .hunt) : s.receive s.cfg.flag = some s.openFrame := by
  simp [State.receive, h, State.huntByte]

theorem receive_data_flag (h : s.rxState = .data) : s.receive s.cfg.flag = s.endFrame := by
  simp [State.receive, h, State.dataByte]

theorem receive_data_esc (h : s.rxState = .data) (hne : s.cfg.esc ≠ s.cfg.flag) :
    s.receive s.cfg.esc = some (s.setRxState .esc) := by
  simp [State.receive, h, State.dataByte, hne]

theorem receive_data_raw (h : s.rxState = .data) (hflag : b ≠ s.cfg.flag) (hesc : b ≠ s.cfg.esc) :
    s.receive b = some (s.accept b) := by
  simp [State.receive, h, State.dataByte, hflag, hesc]

theorem receive_esc_pair (h : s.rxState = .esc) (hb : pairs s.cfg b = true) :
    s.receive b = some (s.accept (b ^^^ s.cfg.xmask)) := by
  simp [State.receive, h, State.escByte, hb]

end

/-! ## The receiver inside a frame (R163, R170) -/

/-- The receiver `s` inside a frame of which it has received the unescaped bytes `u`: the last two
are held, and those before them are delivered and in `RX_CRC`. -/
def State.received (s : State) (u : List Byte) : State :=
  { s with
    rxState := .data
    rxCount := u.length
    rxHold := u.drop (u.length - 2)
    rxCrc := crcOf s.cfg (payloadOf u)
    sink := s.sink ++ sinkWrites (payloadOf u) }

/-- `s` after `n` more responses `OK`. -/
def State.respondOks (s : State) (n : Nat) : State :=
  { s with responses := s.responses ++ okResponses n }

theorem respondOks_succ (s : State) (n : Nat) :
    s.respondOks (n + 1) = (s.respond .ok 0).respondOks n := by
  simp [State.respondOks, State.respond, okResponses, List.replicate_succ]

theorem respond_respondOks (s : State) (n : Nat) :
    (s.respondOks n).respond .ok 0 = s.respondOks (n + 1) := by
  simp [State.respondOks, State.respond, okResponses, List.replicate_succ']

@[simp] theorem payloadOf_append_two (w : List Byte) (x y : Byte) :
    payloadOf (w ++ [x, y]) = w := by
  simp [payloadOf]

theorem openFrame_eq_received (s : State) : s.openFrame = s.received [] := by
  simp [openFrame_eq, State.received, payloadOf, sinkWrites, crcOf]

/-- The bytes received, once there are two of them, are the payload so far and the two held. -/
theorem eq_append_two {u : List Byte} (h : 2 ≤ u.length) : ∃ w x y, u = w ++ [x, y] :=
  ⟨_, _, _, (payloadOf_append_last h).symm⟩

/-- `ACCEPT` in a frame with room adds the byte to those received, raw or as a pair (R163). -/
theorem accept_received {s : State} {u : List Byte} (hroom : u.length < s.cfg.rxMax) (d : Byte)
    (st : RxState) : ((s.received u).setRxState st).accept d = s.received (u ++ [d]) := by
  rcases accept_cases ((s.received u).setRxState st) d with ⟨full, -⟩ | ⟨-, accepted⟩
  case inl => exact absurd full hroom.ne
  rw [accepted]
  rcases lt_or_ge u.length 2 with few | many
  · have held : u.length - 2 = 0 ∧ u.length + 1 - 2 = 0 := by omega
    rcases pushHold_cases ((s.received u).setRxState st) d with ⟨-, push⟩ | ⟨_, _, more, two, -⟩
    · rw [push]
      simp [State.received, State.setRxHold, State.setRxCount, State.setRxState, payloadOf, held]
    · have atLeastTwo : u.length = more.length + 2 := by
        simpa [State.received, held] using congrArg List.length two
      omega
  · obtain ⟨w, x, y, rfl⟩ := eq_append_two many
    have payload : payloadOf (w ++ [x, y, d]) = w ++ [x] := by
      simpa using payloadOf_append_two (w ++ [x]) y d
    have folded : crcOf s.cfg (w ++ [x]) = crcStep s.cfg.poly (crcOf s.cfg w) x :=
      crcFold_append _ _ _ _
    simp [State.received, State.pushHold, State.setRxHold, State.setRxCount, State.setRxState,
      State.setRxCrc, State.sinkWrite, payload, folded, sinkWrites]

/-! ## The receiver runs through a frame (R166, R167, R172) -/

section
variable {s : State} {u : List Byte}

theorem exec_rxByte_received_raw {b : Byte} (hroom : u.length < s.cfg.rxMax)
    (hflag : b ≠ s.cfg.flag) (hesc : b ≠ s.cfg.esc) :
    exec (.rxByte b) (s.received u) = .next ((s.respond .ok 0).received (u ++ [b])) :=
  exec_rxByte_of_receive ((receive_data_raw (s := s.received u) rfl hflag hesc).trans
    (congrArg some (accept_received hroom b .data)))

theorem exec_rxByte_received_esc (hne : s.cfg.esc ≠ s.cfg.flag) :
    exec (.rxByte s.cfg.esc) (s.received u) =
      .next (((s.respond .ok 0).received u).setRxState .esc) :=
  exec_rxByte_of_receive (receive_data_esc (s := s.received u) rfl hne)

theorem exec_rxByte_received_pair {c : Byte} (hroom : u.length < s.cfg.rxMax)
    (hc : pairs s.cfg c = true) :
    exec (.rxByte c) ((s.received u).setRxState .esc) =
      .next ((s.respond .ok 0).received (u ++ [c ^^^ s.cfg.xmask])) :=
  exec_rxByte_of_receive ((receive_esc_pair (s := (s.received u).setRxState .esc) rfl hc).trans
    (congrArg some (accept_received hroom _ .esc)))

theorem runCommands_rxFeed_cons {t : State} {b : Byte} {rest : List Byte} {later : List Instr}
    (h : exec (.rxByte b) s = .next t) :
    runCommands (rxFeedCommands (b :: rest) ++ later) s =
      runCommands (rxFeedCommands rest ++ later) t :=
  runCommands_cons_of_next h

end

/-- Inside a frame with room, bytes that unescape to `v` add `v` to the bytes received, one `OK`
response each, whatever commands follow. -/
theorem runCommands_rxFeed_append {s : State} {u body v : List Byte}
    (hv : unescape s.cfg body = some v) (hroom : u.length + v.length ≤ s.cfg.rxMax)
    (later : List Instr) :
    runCommands (rxFeedCommands body ++ later) (s.received u) =
      runCommands later ((s.respondOks body.length).received (u ++ v)) := by
  replace hv := unescapes_iff.mpr hv
  generalize hp : s.cfg = p at hv hroom
  induction hv generalizing s u with
  | nil => simp [rxFeedCommands, State.respondOks, okResponses]
  | @raw b rest v hflag hesc _ ih =>
    subst hp
    rw [List.length_cons] at hroom
    have here : u.length < s.cfg.rxMax := by omega
    have roomAfter : (u ++ [b]).length + v.length ≤ s.cfg.rxMax := by simp; omega
    calc runCommands (rxFeedCommands (b :: rest) ++ later) (s.received u)
      _ = runCommands (rxFeedCommands rest ++ later) ((s.respond .ok 0).received (u ++ [b])) :=
        runCommands_rxFeed_cons (exec_rxByte_received_raw here hflag hesc)
      _ = _ := ih rfl roomAfter
      _ = _ := by simp [respondOks_succ]
  | @pair c rest v hne hc _ ih =>
    subst hp
    rw [List.length_cons] at hroom
    have here : u.length < s.cfg.rxMax := by omega
    have roomAfter : (u ++ [c ^^^ s.cfg.xmask]).length + v.length ≤ s.cfg.rxMax := by simp; omega
    calc runCommands (rxFeedCommands (s.cfg.esc :: c :: rest) ++ later) (s.received u)
      _ = runCommands (rxFeedCommands (c :: rest) ++ later)
          (((s.respond .ok 0).received u).setRxState .esc) :=
        runCommands_rxFeed_cons (exec_rxByte_received_esc hne)
      _ = runCommands (rxFeedCommands rest ++ later)
          (((s.respond .ok 0).respond .ok 0).received (u ++ [c ^^^ s.cfg.xmask])) :=
        runCommands_rxFeed_cons (exec_rxByte_received_pair here hc)
      _ = _ := ih rfl roomAfter
      _ = _ := by simp [respondOks_succ]

/-- `s` in an empty open frame after it delivered a payload with a valid `SinkDone` (R172). -/
def State.delivered (s : State) (payload : List Byte) : State :=
  State.openFrame { s with sink := s.sink ++ sinkWrites payload ++ [.done true .none] }

/-- A terminator after a payload and its CRC delivers the payload (R164). -/
theorem exec_rxByte_flag_received (s : State) (payload : List Byte) :
    exec (.rxByte s.cfg.flag) (s.received (framedBytes s.cfg payload)) =
      .next ((s.respond .ok 0).delivered payload) := by
  have ended : (s.received (framedBytes s.cfg payload)).endFrame = some (s.delivered payload) := by
    simp [State.endFrame, State.received, framedBytes, checkCrc_eq, State.sinkDone, openFrame_eq,
      State.delivered]
  exact exec_rxByte_of_receive
    ((receive_data_flag (s := s.received (framedBytes s.cfg payload)) rfl).trans ended)

/-- A frame that fits, fed to a receiver that hunts, delivers its payload (R172). -/
theorem runCommands_rxFeed_frame {s : State} {payload : List Byte} (hwf : s.cfg.wellFormed = true)
    (hhunt : s.rxState = .hunt) (hroom : payload.length + 2 ≤ s.cfg.rxMax) :
    runCommands (rxFeedCommands (frame s.cfg payload)) s =
      .next ((s.respondOks (frame s.cfg payload).length).delivered payload) := by
  set body := escapeAll s.cfg (framedBytes s.cfg payload) with hbody
  have parts : rxFeedCommands (frame s.cfg payload) =
      rxFeedCommands (s.cfg.flag :: body) ++ [.rxByte s.cfg.flag] := by
    simp [rxFeedCommands, frame_eq, hbody]
  have opened : exec (.rxByte s.cfg.flag) s = .next ((s.respond .ok 0).received []) := by
    rw [← openFrame_eq_received]
    exact exec_rxByte_of_receive (receive_hunt_flag hhunt)
  have fits : ([] : List Byte).length + (framedBytes s.cfg payload).length ≤ s.cfg.rxMax := by
    simpa using hroom
  calc runCommands (rxFeedCommands (frame s.cfg payload)) s
    _ = runCommands (rxFeedCommands (s.cfg.flag :: body) ++ [.rxByte s.cfg.flag]) s := by rw [parts]
    _ = runCommands (rxFeedCommands body ++ [.rxByte s.cfg.flag]) ((s.respond .ok 0).received []) :=
      runCommands_rxFeed_cons opened
    _ = runCommands [.rxByte s.cfg.flag]
        (((s.respond .ok 0).respondOks body.length).received (framedBytes s.cfg payload)) :=
      runCommands_rxFeed_append (s := s.respond .ok 0) (unescape_escapeAll hwf _) fits _
    _ = .next ((((s.respond .ok 0).respondOks body.length).respond .ok 0).delivered payload) :=
      runCommands_cons_of_next (exec_rxByte_flag_received _ payload)
    _ = _ := by rw [frame_length, ← respondOks_succ, respond_respondOks]

/-! ## The link (R253) -/

section
variable (p : Params) (n : Nat)

theorem escapeAll_withRxMax (bytes : List Byte) :
    escapeAll { p with rxMax := n } bytes = escapeAll p bytes := by
  induction bytes with
  | nil => rfl
  | cons b rest ih => exact congrArg (escape p b ++ ·) ih

/-- A frame does not depend on `RX_MAX`. -/
theorem frame_withRxMax (payload : List Byte) :
    frame { p with rxMax := n } payload = frame p payload := by
  rw [frame, escapeAll_withRxMax]
  rfl

end

/-- Settles O50: the wire of the sender holds the frame of the payload, the same for the receiver's
parameters. -/
theorem linkDeliversThePayload : Obligations.LinkDeliversThePayload := by
  intro sender receiver payload hwf hcfg hroom hidle hwire haccept hhunt
  have accepts := acceptsNext_mono haccept (frame_length_le sender.cfg payload)
  have same : frame sender.cfg payload = frame receiver.cfg payload := by
    rw [hcfg, frame_withRxMax]
  have onWire : sender.wire ++ frame sender.cfg payload = frame receiver.cfg payload := by
    rw [hwire, List.nil_append, same]
  have delivers := runCommands_rxFeed_frame hwf hhunt hroom
  rw [← onWire] at delivers
  exact ⟨_, _, txFrameSendsExactlyTheFrame.1 sender payload hidle accepts, delivers, rfl⟩

end Sys2Proof.Machine
end

section
/-! R163 to R169: what one received byte does, by `RX_STATE`, with the whole next state. -/

namespace Sys2Proof.Machine

/-! ## The RX procedures, case by case (R162 to R164) -/

section
variable {s : State} {d first second : Byte}

theorem accept_of_full (h : s.rxCount = s.cfg.rxMax) (d : Byte) :
    s.accept d = s.abort .overflow := if_pos h

theorem accept_of_room (h : s.rxCount ≠ s.cfg.rxMax) (d : Byte) :
    s.accept d = ((s.pushHold d).setRxCount (s.rxCount + 1)).setRxState .data := if_neg h

theorem pushHold_of_few (h : s.rxHold.length < 2) (d : Byte) :
    s.pushHold d = s.setRxHold (s.rxHold ++ [d]) := by
  rcases pushHold_cases s d with ⟨-, push⟩ | ⟨_, _, _, two, -⟩
  · exact push
  · simp [two] at h

theorem pushHold_of_two (h : s.rxHold = [first, second]) (d : Byte) :
    s.pushHold d =
      ((s.sinkWrite first).setRxCrc (crcStep s.cfg.poly s.rxCrc first)).setRxHold [second, d] := by
  simp [State.pushHold, h]

theorem endFrame_of_empty (h : s.rxCount = 0) : s.endFrame = some s.openFrame := if_pos h

theorem endFrame_of_runt (h : s.rxCount = 1) :
    s.endFrame = some (s.sinkDone false .runt).openFrame := by
  simp [State.endFrame, h]

theorem endFrame_of_two (hcount : 2 ≤ s.rxCount) (hhold : s.rxHold = [first, second]) :
    s.endFrame = some (s.checkCrc first second).openFrame := by
  have notEmpty : s.rxCount ≠ 0 := by omega
  have notRunt : s.rxCount ≠ 1 := by omega
  simp [State.endFrame, notEmpty, notRunt, hhold]

/-- The comparison emits one `SinkDone` and does nothing else (R164). -/
theorem checkCrc_eq_sink (s : State) (first second : Byte) :
    s.checkCrc first second = { s with
      sink := s.sink ++
        [if joinCrc s.cfg.crcOrder first second = s.rxCrc then .done true .none
          else .done false .crcMismatch] } := by
  rw [checkCrc_eq]
  split
  · rfl
  · rfl

theorem huntByte_of_ne_flag {b : Byte} (h : b ≠ s.cfg.flag) : s.huntByte b = s := if_neg h

/-- A broken pair clears the frame; the byte that broke it opens the next one if it is a `FLAG`
(R167). -/
theorem huntByte_abort_eq (s : State) (reason : Reason) (b : Byte) :
    (s.abort reason).huntByte b = { s with
      rxState := if b = s.cfg.flag then .data else .hunt
      rxCount := 0, rxHold := [], rxCrc := s.cfg.seed
      sink := s.sink ++ if 1 ≤ s.rxCount then [.done false reason] else [] } := by
  rw [abort_eq]
  by_cases h : b = s.cfg.flag
  · simp [State.huntByte, openFrame_eq, h]
  · simp [State.huntByte, h]

/-! ## A received byte (R165 to R168) -/

variable {b : Byte}

theorem receive_hunt_discard (h : s.rxState = .hunt) (hb : b ≠ s.cfg.flag) :
    s.receive b = some s := by
  simp [State.receive, h, huntByte_of_ne_flag hb]

theorem receive_esc_broken (h : s.rxState = .esc) (hb : pairs s.cfg b = false) :
    s.receive b = some ((s.abort .badEscape).huntByte b) := by
  simp [State.receive, h, State.escByte, hb]

theorem pairs_eq_false_iff {p : Params} : pairs p b = false ↔
    b = p.flag ∨ b = p.esc ∨ p.reserved (b ^^^ p.xmask) = false := by
  rw [← Bool.not_eq_true, pairs_iff]
  simp only [Classical.not_and_iff_not_or_not, not_not, ne_eq, Bool.not_eq_true]

/-- An unescaped byte comes raw in `RX_DATA` or as a valid pair in `RX_ESC` (R166, R167). -/
theorem receive_unescaped
    (h : (s.rxState = .data ∧ b ≠ s.cfg.flag ∧ b ≠ s.cfg.esc ∧ d = b) ∨
      (s.rxState = .esc ∧ b ≠ s.cfg.flag ∧ b ≠ s.cfg.esc ∧
        s.cfg.reserved (b ^^^ s.cfg.xmask) = true ∧ d = b ^^^ s.cfg.xmask)) :
    s.receive b = some (s.accept d) := by
  rcases h with ⟨hdata, hflag, hesc, rfl⟩ | ⟨hesc, hne, hne', hres, rfl⟩
  · exact receive_data_raw hdata hflag hesc
  · exact receive_esc_pair hesc (pairs_iff.mpr ⟨hne, hne', hres⟩)

end

/-- Settles O40, by the two cases of R165. -/
theorem huntWaitsForTheFlag : Obligations.HuntWaitsForTheFlag :=
  ⟨fun _ hhunt => exec_rxByte_of_receive (receive_hunt_flag hhunt),
    fun _ _ hhunt hb => exec_rxByte_of_receive (receive_hunt_discard hhunt hb)⟩

/-- Settles O41, by the three cases of `END_FRAME`. -/
theorem terminatorEndsAndReopens : Obligations.TerminatorEndsAndReopens := by
  intro s hdata
  have ends {t : State} (h : s.endFrame = some t) :
      exec (.rxByte s.cfg.flag) s = .next (t.respond .ok 0) :=
    exec_rxByte_of_receive ((receive_data_flag hdata).trans h)
  refine ⟨fun hcount => ?_, fun hcount => ?_, fun first second hcount hhold => ?_⟩
  · rw [ends (endFrame_of_empty hcount), openFrame_eq, ← hdata, ← hcount]
    rfl
  · rw [ends (endFrame_of_runt hcount), openFrame_eq, ← hdata]
    rfl
  · rw [ends (endFrame_of_two hcount hhold), checkCrc_eq_sink, openFrame_eq, ← hdata]
    rfl

/-- Settles O42, by the three cases of `ACCEPT`. -/
theorem acceptedByteGoesThroughTheHoldback : Obligations.AcceptedByteGoesThroughTheHoldback := by
  intro s b d hb
  have accepts := exec_rxByte_of_receive (receive_unescaped hb)
  refine ⟨fun hfull => ?_, fun hroom hfew => ?_, fun first second hroom htwo => ?_⟩
  · rw [accepts, accept_of_full hfull, abort_eq]
    rfl
  · rw [accepts, accept_of_room hroom, pushHold_of_few hfew]
    rfl
  · rw [accepts, accept_of_room hroom, pushHold_of_two htwo]
    rfl

/-- Settles O43, by the three cases of R166. -/
theorem dataByteIsSorted : Obligations.DataByteIsSorted :=
  ⟨fun _ _ hdata hend => exec_rxByte_of_receive ((receive_data_flag hdata).trans hend),
    fun _ hdata hne => exec_rxByte_of_receive (receive_data_esc hdata hne),
    fun _ _ hdata hflag hesc => exec_rxByte_of_receive (receive_data_raw hdata hflag hesc)⟩

/-- Settles O44, by the two cases of R167. -/
theorem brokenPairAbortsTheFrame : Obligations.BrokenPairAbortsTheFrame := by
  refine ⟨fun s b hesc hne hne' hres => ?_, fun s b hesc hbroken => ?_⟩
  · exact exec_rxByte_of_receive (receive_esc_pair hesc (pairs_iff.mpr ⟨hne, hne', hres⟩))
  · rw [exec_rxByte_of_receive (receive_esc_broken hesc (pairs_eq_false_iff.mpr hbroken)),
      huntByte_abort_eq]
    rfl

/-! ## At most one sink event for each byte (R169) -/

/-- `t` has the sink events of `s` and at most one more. -/
def atMostOneEvent (s t : State) : Prop :=
  ∃ events : List SinkEvent, events.length ≤ 1 ∧ t.sink = s.sink ++ events

section
variable {s t : State}

theorem atMostOneEvent_of_same (h : t.sink = s.sink) : atMostOneEvent s t :=
  ⟨[], by simp, by simp [h]⟩

theorem atMostOneEvent_of_event {e : SinkEvent} (h : t.sink = s.sink ++ [e]) :
    atMostOneEvent s t :=
  ⟨[e], by simp, h⟩

theorem huntByte_sink (s : State) (b : Byte) : (s.huntByte b).sink = s.sink := by
  unfold State.huntByte
  split
  · rfl
  · rfl

theorem abort_atMostOneEvent (s : State) (reason : Reason) :
    atMostOneEvent s (s.abort reason) := by
  rw [abort_eq]
  refine ⟨_, ?_, rfl⟩
  split <;> simp

theorem accept_atMostOneEvent (s : State) (d : Byte) : atMostOneEvent s (s.accept d) := by
  rcases accept_cases s d with ⟨-, heq⟩ | ⟨-, heq⟩
  · rw [heq]
    exact abort_atMostOneEvent s .overflow
  · rcases pushHold_cases s d with ⟨-, hpush⟩ | ⟨first, _, _, -, hpush⟩
    · exact atMostOneEvent_of_same (by simp [heq, hpush])
    · exact atMostOneEvent_of_event (e := .write first) (by simp [heq, hpush])

theorem endFrame_atMostOneEvent (h : s.endFrame = some t) : atMostOneEvent s t := by
  rcases endFrame_cases h with ⟨-, rfl⟩ | ⟨-, rfl⟩ | ⟨-, first, second, _, -, rfl⟩
  · exact atMostOneEvent_of_same rfl
  · exact atMostOneEvent_of_event rfl
  · rw [checkCrc_eq_sink]
    exact atMostOneEvent_of_event rfl

theorem receive_atMostOneEvent {b : Byte} (h : s.receive b = some t) : atMostOneEvent s t := by
  rcases receive_cases h with ⟨_, rfl⟩ | ⟨_, _, hend⟩ | ⟨_, _, _, rfl⟩ | ⟨_, _, _, rfl⟩ |
    ⟨_, _, rfl⟩ | ⟨_, _, rfl⟩
  · exact atMostOneEvent_of_same (huntByte_sink s b)
  · exact endFrame_atMostOneEvent hend
  · exact atMostOneEvent_of_same rfl
  · exact accept_atMostOneEvent s b
  · exact accept_atMostOneEvent s (b ^^^ s.cfg.xmask)
  · obtain ⟨events, few, emitted⟩ := abort_atMostOneEvent s .badEscape
    exact ⟨events, few, (huntByte_sink _ b).trans emitted⟩

end

theorem encode_rxByte (b : Byte) : encode (.rxByte b) = 0x30000000 ||| b.setWidth 32 := by
  have widths : (b.setWidth 16).setWidth 32 = b.setWidth 32 :=
    BitVec.setWidth_setWidth (by omega)
  rw [← widths]
  exact Laws.append_eq_shiftLeft_or 0x30 (b.setWidth 16)

/-- Settles O45: the events from the cases of the received byte, the rest from its frame. -/
theorem receivedByteGivesAtMostOneEvent : Obligations.ReceivedByteGivesAtMostOneEvent := by
  refine ⟨fun b s t h => ?_, encode_rxByte, illegalUnless_of_inRow (o := .rxByte) fun w h => ?_⟩
  · obtain ⟨u, hu, rfl⟩ := exec_rxByte_next h
    obtain ⟨events, few, emitted⟩ := receive_atMostOneEvent hu
    refine ⟨events, few, emitted, ?_⟩
    rw [receive_frame hu]
    exact ⟨rfl, rfl, rfl, rfl, rfl, ⟨rfl, rfl⟩, rfl⟩
  · rw [← Laws.encode_command h]
    exact byteOperand_middle_zero _ _

end Sys2Proof.Machine
end

section
/-! R170, R172, R173: the events of a frame, from an open empty frame, from a receiver that hunts,
and from every state within the invariants. -/

namespace Sys2Proof.Machine

/-! ## How a frame ends (R162, R164, R170) -/

/-- R164, R170: the reason a terminator gives for a frame of the unescaped bytes `u`. -/
def endReason (p : Params) (u : List Byte) : Reason :=
  if endsInCrc p u then .none else if u.length = 1 then .runt else .crcMismatch

theorem endReason_eq_none_iff (p : Params) (u : List Byte) :
    endReason p u = .none ↔ endsInCrc p u := by
  by_cases valid : endsInCrc p u
  · exact iff_of_true (if_pos valid) valid
  · refine iff_of_false ?_ valid
    rw [endReason, if_neg valid]
    split <;> simp

/-- The `SinkDone` of a frame of the unescaped bytes `u`; none for the empty frame (R170). -/
def doneUnlessEmpty (u : List Byte) (valid : Bool) (reason : Reason) : List SinkEvent :=
  if u = [] then [] else [.done valid reason]

section
variable (s : State) (u : List Byte)

/-- The receiver `s` in an empty frame, one of the unescaped bytes `u` having ended (R164). -/
def State.ended : State :=
  State.openFrame { s with
    sink := s.sink ++ sinkWrites (payloadOf u) ++
      doneUnlessEmpty u (decide (endsInCrc s.cfg u)) (endReason s.cfg u) }

/-- The receiver `s` hunting after a frame of the unescaped bytes `u` was aborted (R162). -/
def State.aborted (reason : Reason) : State :=
  { s with
    rxState := .hunt
    rxCount := 0
    rxHold := []
    rxCrc := s.cfg.seed
    sink := s.sink ++ sinkWrites (payloadOf u) ++ doneUnlessEmpty u false reason }

theorem aborted_sink_of_ne_nil {s : State} {u : List Byte} (h : u ≠ []) (reason : Reason) :
    (s.aborted u reason).sink = s.sink ++ sinkWrites (payloadOf u) ++ [.done false reason] :=
  congrArg (s.sink ++ sinkWrites (payloadOf u) ++ ·) (if_neg h)

theorem endFrame_received : (s.received u).endFrame = some (s.ended u) := by
  match u with
  | [] =>
    rw [endFrame_of_empty (s := s.received []) rfl]
    simp [State.received, State.ended, openFrame_eq, doneUnlessEmpty]
  | [x] =>
    rw [endFrame_of_runt (s := s.received [x]) rfl]
    simp [State.received, State.ended, openFrame_eq, State.sinkDone, doneUnlessEmpty, endReason]
  | x :: y :: rest =>
    obtain ⟨w, a, b, hu⟩ := eq_append_two (u := x :: y :: rest) (by simp)
    have held : (s.received (w ++ [a, b])).rxHold = [a, b] := by simp [State.received]
    have many : 2 ≤ (s.received (w ++ [a, b])).rxCount := by simp [State.received]
    rw [hu, endFrame_of_two many held, checkCrc_eq_sink]
    by_cases valid : joinCrc s.cfg.crcOrder a b = crcOf s.cfg w
    · simp [State.received, State.ended, openFrame_eq, doneUnlessEmpty, endReason, valid]
    · simp [State.received, State.ended, openFrame_eq, doneUnlessEmpty, endReason, valid]

theorem abort_received (st : RxState) (reason : Reason) :
    ((s.received u).setRxState st).abort reason = s.aborted u reason := by
  rw [abort_eq]
  cases u <;> simp [State.received, State.aborted, State.setRxState, doneUnlessEmpty]

end

/-! ## The receiver runs on from a frame's bytes (R163, R164, R167) -/

theorem runCommands_rxFeed_one {s t : State} {b : Byte} (h : exec (.rxByte b) s = .next t) :
    runCommands (rxFeedCommands [b]) s = .next t :=
  runCommands_cons_of_next h

section
variable {s : State} {u : List Byte}

/-- An open empty frame is a frame of no bytes. -/
theorem received_nil_of_freshFrame (h : s.freshFrame) : s.received [] = s := by
  obtain ⟨hstate, hcount, hhold, hcrc⟩ := h
  rw [← openFrame_eq_received, openFrame_eq, ← hstate, ← hcount, ← hhold, ← hcrc]

theorem runCommands_rxFeed_fresh {body : List Byte} (hfresh : s.freshFrame)
    (hu : unescape s.cfg body = some u) (hfit : u.length ≤ s.cfg.rxMax) (more : List Byte) :
    runCommands (rxFeedCommands (body ++ more)) s =
      runCommands (rxFeedCommands more) ((s.respondOks body.length).received u) := by
  have room : ([] : List Byte).length + u.length ≤ s.cfg.rxMax := by simpa using hfit
  have run := runCommands_rxFeed_append hu room (rxFeedCommands more)
  rw [received_nil_of_freshFrame hfresh] at run
  rw [rxFeedCommands, List.map_append]
  exact run

/-- A terminator ends the frame (R164). -/
theorem exec_rxByte_received_flag :
    exec (.rxByte s.cfg.flag) (s.received u) = .next ((s.ended u).respond .ok 0) :=
  exec_rxByte_of_receive ((receive_data_flag (s := s.received u) rfl).trans (endFrame_received s u))

/-- A broken pair aborts the frame (R167). -/
theorem runCommands_rxFeed_received_broken {c : Byte} (hne : s.cfg.esc ≠ s.cfg.flag)
    (hc : pairs s.cfg c = false) :
    runCommands (rxFeedCommands [s.cfg.esc, c]) (s.received u) =
      .next ((((s.respond .ok 0).aborted u .badEscape).huntByte c).respond .ok 0) := by
  have broken := receive_esc_broken (s := ((s.respond .ok 0).received u).setRxState .esc) rfl hc
  rw [abort_received] at broken
  exact (runCommands_cons_of_next (exec_rxByte_received_esc hne)).trans
    (runCommands_rxFeed_one (exec_rxByte_of_receive broken))

theorem huntByte_rxState_of_hunt (h : s.rxState = .hunt) (b : Byte) :
    (s.huntByte b).rxState = if b = s.cfg.flag then .data else .hunt := by
  by_cases hb : b = s.cfg.flag <;> simp [State.huntByte, hb, h]

theorem accept_received_full (hfull : u.length = s.cfg.rxMax) (st : RxState) (d : Byte) :
    ((s.received u).setRxState st).accept d = s.aborted u .overflow := by
  rw [accept_of_full (s := (s.received u).setRxState st) hfull, abort_received]

/-- One more unescaped byte than `RX_MAX`, raw or as a pair, aborts the frame (R163). -/
theorem runCommands_rxFeed_received_overflow {piece : List Byte} {d : Byte}
    (hfull : u.length = s.cfg.rxMax) (hpiece : unescape s.cfg piece = some [d])
    (later : List Instr) :
    runCommands (rxFeedCommands piece ++ later) (s.received u) =
      runCommands later ((s.respondOks piece.length).aborted u .overflow) := by
  cases unescapes_iff.mpr hpiece with
  | raw hflag hesc hrest =>
    cases hrest
    have overflows := (receive_data_raw (s := s.received u) rfl hflag hesc).trans
      (congrArg some (accept_received_full hfull .data d))
    exact runCommands_rxFeed_cons (exec_rxByte_of_receive overflows)
  | @pair c _ _ hne hc hrest =>
    cases hrest
    have overflows := (receive_esc_pair (s := ((s.respond .ok 0).received u).setRxState .esc) rfl
      hc).trans (congrArg some (accept_received_full (s := s.respond .ok 0) hfull .esc _))
    rw [show [s.cfg.esc, c].length = 1 + 1 from rfl, ← respond_respondOks]
    exact (runCommands_rxFeed_cons (exec_rxByte_received_esc hne)).trans
      (runCommands_rxFeed_cons (exec_rxByte_of_receive overflows))

end

/-- Settles O47: the run of the body reaches `received`, and each of the three ends is one step or
two from there. -/
theorem frameEventsAreThoseOfItsBytes : Obligations.FrameEventsAreThoseOfItsBytes := by
  intro s body u hwf hfresh hu hfit
  obtain ⟨hne, -, hmax, -⟩ := (wellFormed_iff s.cfg).mp hwf
  have afterBody (more : List Byte) := runCommands_rxFeed_fresh hfresh hu hfit more
  refine ⟨?body, ?terminator, fun c hc => ?broken, fun hfull piece d hpiece => ?overflow⟩
  case body =>
    have run := afterBody []
    rw [List.append_nil] at run
    exact ⟨_, run, rfl, rfl, rfl, rfl, rfl⟩
  case terminator =>
    have run := (afterBody _).trans (runCommands_rxFeed_one exec_rxByte_received_flag)
    have reason : decide (endsInCrc s.cfg u) = true ↔ endReason s.cfg u = .none := by
      rw [decide_eq_true_iff, endReason_eq_none_iff]
    exact ⟨_, run, ⟨rfl, rfl, rfl, rfl⟩, decide (endsInCrc s.cfg u), endReason s.cfg u,
      decide_eq_true_iff, reason, rfl⟩
  case broken =>
    have run := (afterBody _).trans (runCommands_rxFeed_received_broken hne.symm hc)
    exact ⟨_, run, huntByte_rxState_of_hunt rfl c, huntByte_sink _ c⟩
  case overflow =>
    have run := runCommands_rxFeed_received_overflow (s := s.respondOks body.length) hfull hpiece []
    rw [List.append_nil] at run
    have nonempty : u ≠ [] := List.ne_nil_of_length_pos (by omega)
    exact ⟨_, (afterBody piece).trans run, rfl, aborted_sink_of_ne_nil nonempty _⟩

/-! ## A whole frame (R172, R173) -/

section
variable {s r : State}

/-- A `FLAG` opens an empty frame without an event where the receiver hunts or is in one (R172). -/
theorem receive_flag_of_idle (h : s.rxState = .hunt ∨ s.freshFrame) :
    s.receive s.cfg.flag = some s.openFrame := by
  rcases h with hhunt | ⟨hdata, hcount, -⟩
  · exact receive_hunt_flag hhunt
  · exact (receive_data_flag hdata).trans (endFrame_of_empty hcount)

/-- A frame that fits is delivered from every state in which its first `FLAG` opens an empty frame:
the receiver goes on as one that hunts (R172). -/
theorem runCommands_rxFeed_frame_of_opens {payload : List Byte} (hwf : s.cfg.wellFormed = true)
    (hroom : payload.length + 2 ≤ s.cfg.rxMax) (hcfg : r.cfg = s.cfg)
    (hopens : s.receive s.cfg.flag = some r.openFrame) :
    runCommands (rxFeedCommands (frame s.cfg payload)) s =
      .next ((r.respondOks (frame s.cfg payload).length).delivered payload) := by
  rw [← hcfg] at hwf hroom hopens ⊢
  set hunting := r.setRxState .hunt
  have delivers := runCommands_rxFeed_frame (s := hunting) hwf rfl hroom
  have first : exec (.rxByte r.cfg.flag) hunting = .next (r.openFrame.respond .ok 0) :=
    exec_rxByte_of_receive (receive_hunt_flag (s := hunting) rfl)
  rw [frame_eq] at delivers ⊢
  exact (runCommands_cons_of_next (exec_rxByte_of_receive hopens)).trans
    ((runCommands_cons_of_next first).symm.trans delivers)

theorem respondOks_respondOks (s : State) (m n : Nat) :
    (s.respondOks m).respondOks n = s.respondOks (m + n) := by
  simp [State.respondOks, okResponses]

/-- A receiver that hunts discards bytes that are no `FLAG` (R165). -/
theorem runCommands_rxFeed_hunt (hhunt : s.rxState = .hunt) {bytes : List Byte}
    (hbytes : s.cfg.flag ∉ bytes) (later : List Instr) :
    runCommands (rxFeedCommands bytes ++ later) s =
      runCommands later (s.respondOks bytes.length) := by
  induction bytes generalizing s with
  | nil => simp [rxFeedCommands, State.respondOks, okResponses]
  | cons b rest ih =>
    obtain ⟨hb, hrest⟩ := not_or.mp (mt List.mem_cons.mpr hbytes)
    have discarded := exec_rxByte_of_receive (receive_hunt_discard hhunt (Ne.symm hb))
    rw [runCommands_rxFeed_cons discarded, ih (s := s.respond .ok 0) hhunt hrest,
      List.length_cons, respondOks_succ]

/-- The unescaped bytes of a frame that does not fit: `RX_MAX` of them, one more, and the rest. -/
theorem framedBytes_beyond_rxMax {p : Params} {payload : List Byte}
    (h : p.rxMax < payload.length + 2) :
    ∃ u d rest, framedBytes p payload = u ++ d :: rest ∧ u.length = p.rxMax ∧
      payloadOf u = payload.take (p.rxMax - 2) := by
  have more : p.rxMax < (framedBytes p payload).length := by rwa [length_framedBytes]
  have length : ((framedBytes p payload).take p.rxMax).length = p.rxMax :=
    List.length_take_of_le more.le
  refine ⟨(framedBytes p payload).take p.rxMax, (framedBytes p payload)[p.rxMax],
    (framedBytes p payload).drop (p.rxMax + 1), ?_, length, ?_⟩
  · rw [← List.drop_eq_getElem_cons more, List.take_append_drop]
  · rw [payloadOf, length, List.take_take, min_eq_left (Nat.sub_le _ _), framedBytes,
      List.take_append_of_le_length (by omega)]

/-- In an empty frame, bytes that unescape to `RX_MAX` bytes, then one more unescaped byte, abort
the frame; what follows up to the next `FLAG` is discarded (R163, R165). -/
theorem runCommands_rxFeed_beyond_rxMax {body piece tail u : List Byte} {d : Byte}
    (hbody : unescape s.cfg body = some u) (hfull : u.length = s.cfg.rxMax)
    (hpiece : unescape s.cfg piece = some [d]) (htail : s.cfg.flag ∉ tail) (later : List Instr) :
    runCommands (rxFeedCommands (body ++ piece ++ tail) ++ later) (s.received []) =
      runCommands later
        ((s.respondOks (body ++ piece ++ tail).length).aborted u .overflow) := by
  have parts : rxFeedCommands (body ++ piece ++ tail) ++ later =
      rxFeedCommands body ++ (rxFeedCommands piece ++ (rxFeedCommands tail ++ later)) := by
    simp [rxFeedCommands]
  have fits : ([] : List Byte).length + u.length ≤ s.cfg.rxMax := by simp [hfull]
  set atMax := s.respondOks body.length
  set beyond := atMax.respondOks piece.length
  calc runCommands (rxFeedCommands (body ++ piece ++ tail) ++ later) (s.received [])
    _ = runCommands (rxFeedCommands piece ++ (rxFeedCommands tail ++ later))
          (atMax.received u) := by
      rw [parts]
      exact runCommands_rxFeed_append hbody fits _
    _ = runCommands (rxFeedCommands tail ++ later) (beyond.aborted u .overflow) :=
      runCommands_rxFeed_received_overflow (s := atMax) hfull hpiece _
    _ = runCommands later ((beyond.respondOks tail.length).aborted u .overflow) :=
      runCommands_rxFeed_hunt (s := beyond.aborted u .overflow) rfl htail _
    _ = _ := by rw [respondOks_respondOks, respondOks_respondOks, List.length_append,
      List.length_append, Nat.add_assoc]

/-- A frame that does not fit is aborted, and its last `FLAG` opens an empty frame (R172). -/
theorem runCommands_rxFeed_frame_overflow {payload u rest : List Byte} {d : Byte}
    (hwf : s.cfg.wellFormed = true) (hopens : s.receive s.cfg.flag = some s.openFrame)
    (hsplit : framedBytes s.cfg payload = u ++ d :: rest) (hfull : u.length = s.cfg.rxMax) :
    runCommands (rxFeedCommands (frame s.cfg payload)) s =
      .next ((s.respondOks (frame s.cfg payload).length).aborted u .overflow).openFrame := by
  set body := escapeAll s.cfg u ++ escapeAll s.cfg [d] ++ escapeAll s.cfg rest
  have wire : escapeAll s.cfg (framedBytes s.cfg payload) = body := by
    rw [hsplit, List.append_cons, escapeAll_append, escapeAll_append]
  have parts : rxFeedCommands (frame s.cfg payload) =
      rxFeedCommands (s.cfg.flag :: body) ++ [.rxByte s.cfg.flag] := by
    simp [rxFeedCommands, frame_eq, wire]
  have opened : exec (.rxByte s.cfg.flag) s = .next ((s.respond .ok 0).received []) := by
    rw [← openFrame_eq_received]
    exact exec_rxByte_of_receive hopens
  have reopened (t : State) : exec (.rxByte t.cfg.flag) (t.aborted u .overflow) =
      .next ((t.respond .ok 0).aborted u .overflow).openFrame :=
    exec_rxByte_of_receive (receive_hunt_flag (s := t.aborted u .overflow) rfl)
  calc runCommands (rxFeedCommands (frame s.cfg payload)) s
    _ = runCommands (rxFeedCommands body ++ [.rxByte s.cfg.flag])
        ((s.respond .ok 0).received []) := by
      rw [parts]
      exact runCommands_rxFeed_cons opened
    _ = runCommands [.rxByte s.cfg.flag]
        (((s.respond .ok 0).respondOks body.length).aborted u .overflow) :=
      runCommands_rxFeed_beyond_rxMax (s := s.respond .ok 0) (unescape_escapeAll hwf u) hfull
        (unescape_escapeAll hwf [d]) (flag_not_mem_escapeAll hwf rest) _
    _ = .next ((((s.respond .ok 0).respondOks body.length).respond .ok 0).aborted u
        .overflow).openFrame :=
      runCommands_cons_of_next (reopened ((s.respond .ok 0).respondOks body.length))
    _ = _ := by rw [frame_length, wire, ← respondOks_succ, respond_respondOks]

end

/-- Settles O48: the first `FLAG` opens an empty frame from either start. -/
theorem receivedFrameDeliversItsPayload : Obligations.ReceivedFrameDeliversItsPayload := by
  intro s payload hwf hidle
  obtain ⟨-, -, hmax, -⟩ := (wellFormed_iff s.cfg).mp hwf
  have opens := receive_flag_of_idle hidle
  refine ⟨fun hroom => ?_, fun hover => ?_⟩
  · exact ⟨_, runCommands_rxFeed_frame_of_opens hwf hroom rfl opens, ⟨rfl, rfl, rfl, rfl⟩, rfl⟩
  · obtain ⟨u, d, rest, hsplit, hfull, hpayload⟩ := framedBytes_beyond_rxMax hover
    have run := runCommands_rxFeed_frame_overflow hwf opens hsplit hfull
    have nonempty : u ≠ [] := List.ne_nil_of_length_pos (by omega)
    rw [← hpayload]
    exact ⟨_, run, aborted_sink_of_ne_nil nonempty _⟩

/-- The receiver `s` as if it hunted, after the frame that was open ended with `events`. -/
def State.huntingAfter (s : State) (events : List SinkEvent) : State :=
  { s with
    rxState := .hunt
    sink := s.sink ++ events }

/-- What the first `FLAG` of a frame does with the frame that was open before (R173): at most one
`SinkDone`, valid only if the two held bytes are the CRC. -/
theorem receive_flag_resynchronises {s : State} (inv : s.Inv) :
    ∃ earlier : List SinkEvent,
      s.receive s.cfg.flag = some (s.huntingAfter earlier).openFrame ∧ earlier.length ≤ 1 ∧
      ∀ e ∈ earlier, ∃ valid reason, e = .done valid reason ∧
        (valid = true → s.rxState = .data ∧ ∃ first second, s.rxHold = [first, second] ∧
          joinCrc s.cfg.crcOrder first second = s.rxCrc) := by
  cases hstate : s.rxState with
  | hunt =>
    refine ⟨[], ?_, by simp, by simp⟩
    rw [receive_hunt_flag hstate]
    simp [openFrame_eq, State.huntingAfter]
  | esc =>
    have broken : pairs s.cfg s.cfg.flag = false := pairs_eq_false_iff.mpr (.inl rfl)
    refine ⟨if 1 ≤ s.rxCount then [.done false .badEscape] else [], ?_, by split <;> simp, ?_⟩
    · rw [receive_esc_broken hstate broken, huntByte_abort_eq, if_pos rfl]
      rfl
    · split <;> simp
  | data =>
    rw [receive_data_flag hstate]
    have sizes : s.rxCount = 0 ∨ s.rxCount = 1 ∨ 2 ≤ s.rxCount := by omega
    rcases sizes with empty | runt | many
    · refine ⟨[], ?_, by simp, by simp⟩
      rw [endFrame_of_empty empty]
      simp [openFrame_eq, State.huntingAfter]
    · exact ⟨[.done false .runt], endFrame_of_runt runt, le_rfl, by simp⟩
    · obtain ⟨first, second, held⟩ : ∃ first second, s.rxHold = [first, second] :=
        List.length_eq_two.mp (inv.hold_length.trans (min_eq_right many))
      have ends := endFrame_of_two many held
      rw [checkCrc_eq_sink] at ends
      refine ⟨_, ends, le_rfl, ?_⟩
      by_cases valid : joinCrc s.cfg.crcOrder first second = s.rxCrc
      · simp [held, valid]
      · simp [valid]

/-- Settles O49: after the first `FLAG` the receiver goes on as one that hunts. -/
theorem receiverResynchronisesOnAFrame : Obligations.ReceiverResynchronisesOnAFrame := by
  intro s payload hwf inv hroom
  obtain ⟨earlier, opens, few, valid⟩ := receive_flag_resynchronises inv
  have run := runCommands_rxFeed_frame_of_opens (r := s.huntingAfter earlier) hwf hroom rfl opens
  exact ⟨_, earlier, run, ⟨rfl, rfl, rfl, rfl⟩, few, valid, rfl⟩

end Sys2Proof.Machine
end

section
/-! R71, R73, R78: the words of the rows with a mask or a selector operand; R200 to R203: the
control commands and the fields of `STATUS_WORD`. -/

namespace Sys2Proof.Machine

/-! ## Words of the control commands (R71, R73, R78) -/

/-- A word of a row has zero in every bit from its value field up to `OP` (R71, R72). -/
theorem middle_zero_of_inRow {w : Word} {o : Opcode} (h : Laws.InRow w o) :
    w.extractLsb' o.form.valueBits (24 - o.form.valueBits) = 0 := by
  obtain ⟨-, hrsv, hopd⟩ := h
  apply BitVec.eq_of_getLsbD_eq
  intro k hk
  rw [BitVec.getLsbD_extractLsb', ← Laws.append_fields w, Laws.word_bit, hrsv]
  by_cases low : o.form.valueBits + k < 16
  · have fits : (opdField w).toNat < 2 ^ (o.form.valueBits + k) :=
      (Laws.lt_of_mustBeZero hopd).trans_le (Nat.pow_le_pow_right two_pos (Nat.le_add_right _ _))
    have bit : (opdField w).getLsbD (o.form.valueBits + k) = false := Nat.testBit_lt_two_pow fits
    rw [if_pos low, bit, Bool.and_false]
    exact BitVec.getLsbD_zero.symm
  · simp [low, show o.form.valueBits + k - 16 < 8 by omega]

/-- The word of a command whose operand is zero-extended to `OPD` (R78). -/
theorem append_setWidth_eq_shiftLeft_or (c : Byte) {n : Nat} (hn : n ≤ 16) (v : BitVec n) :
    (c ++ 0#8 ++ v.setWidth 16 : Word) = (c.setWidth 32 <<< 24) ||| v.setWidth 32 := by
  have widths : (v.setWidth 16).setWidth 32 = v.setWidth 32 :=
    BitVec.setWidth_setWidth (by omega)
  rw [← widths]
  exact Laws.append_eq_shiftLeft_or c (v.setWidth 16)

theorem encode_reset (mask : BitVec 3) : encode (.reset mask) = 0x01000000 ||| mask.setWidth 32 :=
  append_setWidth_eq_shiftLeft_or 0x01 (by decide) mask

theorem encode_query (sel : BitVec 2) : encode (.query sel) = 0x02000000 ||| sel.setWidth 32 :=
  append_setWidth_eq_shiftLeft_or 0x02 (by decide) sel

/-! ## The fields of `STATUS_WORD` (R203) -/

section
variable (s : State)

theorem statusWord_txState : s.statusWord.extractLsb' 0 1 = s.txState.code :=
  BitVec.extractLsb'_append_eq_right

theorem statusWord_rxState : s.statusWord.extractLsb' 1 2 = s.rxState.code :=
  (BitVec.extractLsb'_append_eq_of_le (by decide)).trans BitVec.extractLsb'_append_eq_right

/-- The bits above `TX_STATE` and `RX_STATE` are those of the two upper fields. -/
theorem statusWord_above_states {start len : Nat} (h : 3 ≤ start) :
    s.statusWord.extractLsb' start len =
      (0#11 ++ BitVec.ofNat 2 s.rxHold.length).extractLsb' (start - 1 - 2) len :=
  (BitVec.extractLsb'_append_eq_of_le (by omega)).trans
    (BitVec.extractLsb'_append_eq_of_le (by omega))

theorem statusWord_holdN : s.statusWord.extractLsb' 3 2 = BitVec.ofNat 2 s.rxHold.length :=
  (statusWord_above_states s le_rfl).trans BitVec.extractLsb'_append_eq_right

theorem statusWord_rest : s.statusWord.extractLsb' 5 11 = 0 :=
  (statusWord_above_states s (by decide)).trans BitVec.extractLsb'_append_eq_left

variable {s}

/-- A holdback of at most two bytes (R27) is counted in full by the two bits of `HOLD_N`. -/
theorem statusWord_holdN_toNat (h : s.rxHold.length ≤ 2) :
    (s.statusWord.extractLsb' 3 2).toNat = s.rxHold.length := by
  rw [statusWord_holdN, BitVec.toNat_ofNat, Nat.mod_eq_of_lt (by omega)]

end

theorem TxState.code_eq (st : TxState) : st.code = if st = .idle then 0 else 1 := by
  cases st <;> rfl

theorem RxState.code_eq (st : RxState) :
    st.code = if st = .hunt then 0 else if st = .data then 1 else 2 := by
  cases st <;> rfl

theorem RxState.code_ne_three (st : RxState) : st.code ≠ 3 := by
  cases st <;> decide

/-- After reset both states have code 0 and nothing is held (R34, R203). -/
theorem resetWith_statusWord (p : Params) : (State.resetWith p).statusWord = 0x0000 := by
  change (0#11 ++ 0#2 ++ RxState.hunt.code ++ TxState.idle.code : Half) = 0x0000
  decide

/-- Settles O19, field by field: the states have no code 3, and at most two bytes are held. -/
theorem statusWordFields : Obligations.StatusWordFields := by
  refine ⟨fun s held => ⟨(statusWord_txState s).trans (TxState.code_eq s.txState),
    (statusWord_rxState s).trans (RxState.code_eq s.rxState), statusWord_holdN_toNat held,
    statusWord_rest s, (statusWord_rxState s).trans_ne (RxState.code_ne_three s.rxState),
    fun three => ?_⟩, resetWith_statusWord⟩
  have counted := statusWord_holdN_toNat held
  rw [three] at counted
  exact absurd (counted.trans_le held) (by decide)

/-! ## The commands (R200 to R202) -/

theorem saturatedCount_toNat (s : State) : s.saturatedCount.toNat = min s.rxCount 0xFFFF :=
  Nat.mod_eq_of_lt (by omega)

/-- `RESET mask` is `resetUnits` and one response (R201). -/
theorem exec_reset (mask : BitVec 3) (s : State) :
    exec (.reset mask) s = .next ((s.resetUnits mask).respond .ok 0) := rfl

/-- Settles O16: the only word of the row is the encoding of `NOP`. -/
theorem nopOnlyResponds : Obligations.NopOnlyResponds :=
  ⟨fun _ => rfl, by decide, by decide, illegalUnless_of_inRow (o := .nop) fun _ h =>
    (Laws.encode_command h).symm.trans (by decide : encode .nop = 0x00000000)⟩

/-- Settles O17: the elements are those of `resetUnits_eq`. -/
theorem resetRestoresTheSelectedUnits : Obligations.ResetRestoresTheSelectedUnits := by
  refine ⟨fun mask s => ?_, encode_reset,
    illegalUnless_of_inRow (o := .reset) fun _ h => middle_zero_of_inRow h⟩
  rw [exec_reset, resetUnits_eq]
  rfl

/-- Settles O18: each selector's datum is a case of `State.queried`. -/
theorem queryReturnsTheSelectedDatum : Obligations.QueryReturnsTheSelectedDatum :=
  ⟨fun s => ⟨rfl, rfl, rfl, s.saturatedCount, rfl, saturatedCount_toNat s⟩, encode_query,
    illegalUnless_of_inRow (o := .query) fun _ h => middle_zero_of_inRow h⟩

end Sys2Proof.Machine
end

section
/-! R73, R220, R222, R226: every word completes with one response, whose status is that of the first
cause in order. -/

namespace Sys2Proof.Machine

/-! ## Words that no row selects (R73, R222) -/

theorem decode_error_of_no_row {w : Word} (h : ∀ r ∈ opcodeTable, r.selects w = false) :
    ∃ e, decode w = .error e := by
  cases hd : decode w with
  | error e => exact ⟨e, rfl⟩
  | ok i =>
    obtain ⟨o, ho, -⟩ := Laws.decode_eq_ok_iff.mp hd
    obtain ⟨r, hr, rfl⟩ := Laws.exists_row o
    have selected := (Laws.selects_iff_inRow hr w).mpr ho
    exact absurd (selected.symm.trans (h r hr)) (by decide)

/-- Settles O9: a word that no row selects does not decode, and the step rejects it. -/
theorem illegalWordOnlyResponds : Obligations.IllegalWordOnlyResponds := by
  intro s w rest hwf hi h
  obtain ⟨e, he⟩ := decode_error_of_no_row h
  exact step_of_illegalWord hwf hi he

/-! ## The order of the statuses (R226) -/

section
variable {i : Instr} {s u : State} {wrong : TxState} {bytes : List Byte}

theorem not_acceptsNext_of_refusesAt {n k : Nat} (h : s.refusesAt n k) : ¬ s.acceptsNext n := by
  obtain ⟨hk, -, refused⟩ := h
  intro accepts
  exact absurd ((accepts k hk).symm.trans refused) (by decide)

/-- `i` completes, and its status is that of the first cause that applies: being run in the state
`wrong`, then a refusal among `bytes`. -/
def StatusInOrder (i : Instr) (s : State) (wrong : TxState) (bytes : List Byte) : Prop :=
  ∃ t st, exec i s = .next t ∧ t.responses = s.responses ++ [⟨st, 0⟩] ∧
    (s.txState = wrong → st = .protocolViolation) ∧
    (s.txState ≠ wrong → (∃ k, s.refusesAt bytes.length k) → st = .transportWriteFailure) ∧
    (s.txState ≠ wrong → s.acceptsNext bytes.length → st = .ok)

/-- A command that is a violation in one `TX_STATE` and else sends, from a state `u` with the same
responses so far and the same answers to come. -/
theorem statusInOrder_of_violation_or_sending
    (violates : s.txState = wrong → exec i s = .next (s.respond .protocolViolation 0))
    (sends : s.txState ≠ wrong → exec i s = .next (u.sendAndRespond bytes))
    (hresponses : u.responses = s.responses) (hanswers : u.answerAt = s.answerAt) :
    StatusInOrder i s wrong bytes := by
  unfold StatusInOrder
  by_cases hs : s.txState = wrong
  · exact ⟨_, _, violates hs, rfl, fun _ => rfl, absurd hs, absurd hs⟩
  simp only [State.refusesAt, State.acceptsNext, sends hs, ← hresponses, ← hanswers]
  rcases sendAndRespond_cases u bytes with ⟨accepts, sent⟩ | ⟨k, refuses, sent⟩
  · exact ⟨_, .ok, rfl, by rw [sent]; rfl, fun h => absurd h hs,
      fun _ ⟨k, refuses⟩ => absurd accepts (not_acceptsNext_of_refusesAt refuses), fun _ _ => rfl⟩
  · exact ⟨_, .transportWriteFailure, rfl, by rw [sent]; rfl, fun h => absurd h hs, fun _ _ => rfl,
      fun _ accepts => absurd accepts (not_acceptsNext_of_refusesAt refuses)⟩

theorem TxState.eq_idle_of_ne_inFrame {st : TxState} (h : st ≠ .inFrame) : st = .idle := by
  cases st with
  | idle => rfl
  | inFrame => exact absurd rfl h

theorem TxState.eq_inFrame_of_ne_idle {st : TxState} (h : st ≠ .idle) : st = .inFrame := by
  cases st with
  | idle => exact absurd rfl h
  | inFrame => rfl

theorem txStart_statusInOrder (s : State) : StatusInOrder .txStart s .inFrame [s.cfg.flag] :=
  statusInOrder_of_violation_or_sending exec_txStart_inFrame
    (fun h => exec_txStart_idle (TxState.eq_idle_of_ne_inFrame h)) rfl rfl

theorem txData_statusInOrder (b : Byte) (s : State) :
    StatusInOrder (.txData b) s .idle (escape s.cfg b) :=
  statusInOrder_of_violation_or_sending (exec_txData_idle b)
    (fun h => exec_txData_inFrame b (TxState.eq_inFrame_of_ne_idle h)) rfl rfl

theorem txEnd_statusInOrder (s : State) : StatusInOrder .txEnd s .idle (closing s.cfg s.txCrc) :=
  statusInOrder_of_violation_or_sending exec_txEnd_idle
    (fun h => exec_txEnd_inFrame (TxState.eq_inFrame_of_ne_idle h)) rfl rfl

end

/-- Settles O10: an illegal word is rejected, each TX command has its status in order, and every
other command responds `OK`. -/
theorem statusesAreCheckedInOrder : Obligations.StatusesAreCheckedInOrder := by
  refine ⟨fun s w rest hwf hi h => ⟨_, illegalWordOnlyResponds s w rest hwf hi h, rfl⟩,
    fun s b i wrong bytes hrow => ?_, fun i s t hu h => ?_⟩
  · change StatusInOrder i s wrong bytes
    simp only [List.mem_cons, Prod.mk.injEq, List.not_mem_nil, or_false] at hrow
    obtain ⟨rfl, rfl, rfl⟩ | ⟨rfl, rfl, rfl⟩ | ⟨rfl, rfl, rfl⟩ := hrow
    · exact txStart_statusInOrder s
    · exact txData_statusInOrder b s
    · exact txEnd_statusInOrder s
  · obtain ⟨d, responded, -⟩ := exec_responds_ok hu h
    exact ⟨d, responded⟩

/-! ## Every word completes (R220) -/

section
variable {s : State}

/-- Within the invariants a received byte is handled: a terminator finds the bytes it reads. -/
theorem receive_completes (inv : s.Inv) (b : Byte) : ∃ t, s.receive b = some t := by
  by_cases hflag : b = s.cfg.flag
  · obtain ⟨_, received, -⟩ := receive_flag_resynchronises inv
    exact ⟨_, hflag ▸ received⟩
  cases hstate : s.rxState with
  | hunt => exact ⟨_, receive_hunt_discard hstate hflag⟩
  | data =>
    by_cases hesc : b = s.cfg.esc
    · subst hesc
      exact ⟨_, receive_data_esc hstate hflag⟩
    · exact ⟨_, receive_data_raw hstate hflag hesc⟩
  | esc =>
    cases hpair : pairs s.cfg b with
    | true => exact ⟨_, receive_esc_pair hstate hpair⟩
    | false => exact ⟨_, receive_esc_broken hstate hpair⟩

theorem exec_completes (inv : s.Inv) (i : Instr) : ∃ t, exec i s = .next t := by
  cases i with
  | rxByte b =>
    obtain ⟨u, received⟩ := receive_completes inv b
    exact ⟨_, exec_rxByte_of_receive received⟩
  | nop | reset | query | crcInit | crcLoad | crcUpdate | crcRead | txStart | txData | txEnd =>
    exact ⟨_, rfl⟩

theorem step_word_responds {w : Word} {rest : List Input} (hwf : s.cfg.wellFormed = true)
    (inv : s.Inv) (hi : s.inputs = .word w :: rest) :
    ∃ t r, step s = .next t ∧ t.responses = s.responses ++ [r] := by
  cases hd : decode w with
  | error e => exact ⟨_, _, step_of_illegalWord hwf hi hd, rfl⟩
  | ok i =>
    have taken : State.Inv { s with inputs := rest } := inv.of_sameRx rfl ⟨rfl, rfl, rfl, rfl⟩
    obtain ⟨t, completes⟩ := exec_completes taken i
    obtain ⟨r, responded⟩ := exec_responds completes
    exact ⟨t, r, (step_of_legalWord hwf hi hd).trans completes, responded⟩

end

/-- Settles O14: the word completes, and what holds after every step (O52, O59) holds after this
one. -/
theorem everyWordCompletesWithOneResponse : Obligations.EveryWordCompletesWithOneResponse := by
  intro s w rest hwf inv hi
  obtain ⟨t, r, next, responded⟩ := step_word_responds hwf inv hi
  obtain ⟨hcfg, hinputs⟩ := stepTakesOneInputAndKeepsTheConfiguration.1 s t next
  have taken : t.inputs = rest := by rw [hinputs, hi, List.tail_cons]
  exact ⟨t, r, next, taken, responded, hcfg, everyStepKeepsTheInvariants s t inv next⟩

end Sys2Proof.Machine
end

section
/-! R227: the one cause of each reason of a `SinkDone`. -/

namespace Sys2Proof.Machine

section
variable {s t : State} {b : Byte} {valid : Bool} {reason : Reason}

/-! ## The notification each RX procedure gives (R162 to R164) -/

theorem abort_done {why : Reason}
    (h : (s.abort why).sink = s.sink ++ [.done valid reason]) :
    1 ≤ s.rxCount ∧ valid = false ∧ reason = why := by
  rw [abort_eq] at h
  by_cases received : 1 ≤ s.rxCount
  · obtain ⟨rfl, rfl⟩ : false = valid ∧ why = reason := by simpa [received] using h
    exact ⟨received, rfl, rfl⟩
  · simp [received] at h

theorem accept_done {d : Byte} (h : (s.accept d).sink = s.sink ++ [.done valid reason]) :
    s.rxCount = s.cfg.rxMax ∧ valid = false ∧ reason = .overflow := by
  rcases accept_cases s d with ⟨full, heq⟩ | ⟨-, heq⟩
  · rw [heq] at h
    exact ⟨full, (abort_done h).2⟩
  · rcases pushHold_cases s d with ⟨-, hpush⟩ | ⟨_, _, _, -, hpush⟩
    · simp [heq, hpush] at h
    · simp [heq, hpush] at h

theorem endFrame_done (hend : s.endFrame = some t)
    (h : t.sink = s.sink ++ [.done valid reason]) :
    (s.rxCount = 1 ∧ valid = false ∧ reason = .runt) ∨
      (2 ≤ s.rxCount ∧
        ((valid = true ∧ reason = .none) ∨ (valid = false ∧ reason = .crcMismatch))) := by
  rcases endFrame_cases hend with ⟨-, rfl⟩ | ⟨runt, rfl⟩ | ⟨many, _, _, _, -, rfl⟩
  · simp at h
  · obtain ⟨rfl, rfl⟩ : false = valid ∧ Reason.runt = reason := by simpa using h
    exact .inl ⟨runt, rfl, rfl⟩
  · refine .inr ⟨many, ?_⟩
    rw [checkCrc_eq] at h
    split at h
    · obtain ⟨rfl, rfl⟩ : true = valid ∧ Reason.none = reason := by simpa using h
      exact .inl ⟨rfl, rfl⟩
    · obtain ⟨rfl, rfl⟩ : false = valid ∧ Reason.crcMismatch = reason := by simpa using h
      exact .inr ⟨rfl, rfl⟩

/-! ## The notification of a received byte (R227) -/

/-- The causes of R227: what a state and a received byte are when the byte gives
`SinkDone(valid, reason)`. -/
inductive DoneCause (s : State) (b : Byte) : Bool → Reason → Prop where
  /-- A terminator, with the received CRC and the computed one equal. -/
  | valid (hdata : s.rxState = .data) (hflag : b = s.cfg.flag) (many : 2 ≤ s.rxCount) :
      DoneCause s b true .none
  /-- A terminator, with the two CRCs different. -/
  | crcMismatch (hdata : s.rxState = .data) (hflag : b = s.cfg.flag) (many : 2 ≤ s.rxCount) :
      DoneCause s b false .crcMismatch
  /-- A terminator after one unescaped byte. -/
  | runt (hdata : s.rxState = .data) (hflag : b = s.cfg.flag) (one : s.rxCount = 1) :
      DoneCause s b false .runt
  /-- A broken pair in a frame that has received a byte. -/
  | badEscape (hesc : s.rxState = .esc) (broken : pairs s.cfg b = false)
      (received : 1 ≤ s.rxCount) : DoneCause s b false .badEscape
  /-- A raw byte beyond `RX_MAX`. -/
  | rawOverflow (hdata : s.rxState = .data) (hflag : b ≠ s.cfg.flag) (hesc : b ≠ s.cfg.esc)
      (full : s.rxCount = s.cfg.rxMax) : DoneCause s b false .overflow
  /-- A pair beyond `RX_MAX`. -/
  | pairOverflow (hesc : s.rxState = .esc) (pair : pairs s.cfg b = true)
      (full : s.rxCount = s.cfg.rxMax) : DoneCause s b false .overflow

theorem receive_done (hr : s.receive b = some t)
    (h : t.sink = s.sink ++ [.done valid reason]) : DoneCause s b valid reason := by
  rcases receive_cases hr with ⟨_, rfl⟩ | ⟨hdata, hflag, hend⟩ | ⟨_, _, _, rfl⟩ |
    ⟨hdata, hflag, hesc, rfl⟩ | ⟨hesc, pair, rfl⟩ | ⟨hesc, broken, rfl⟩
  · simp [huntByte_sink] at h
  · obtain ⟨one, rfl, rfl⟩ | ⟨many, ⟨rfl, rfl⟩ | ⟨rfl, rfl⟩⟩ := endFrame_done hend h
    · exact .runt hdata hflag one
    · exact .valid hdata hflag many
    · exact .crcMismatch hdata hflag many
  · simp at h
  · obtain ⟨full, rfl, rfl⟩ := accept_done h
    exact .rawOverflow hdata hflag hesc full
  · obtain ⟨full, rfl, rfl⟩ := accept_done h
    exact .pairOverflow hesc pair full
  · rw [huntByte_sink] at h
    obtain ⟨received, rfl, rfl⟩ := abort_done h
    exact .badEscape hesc broken received

end

/-- Settles O46: a received byte gives a `SinkDone` for one of the causes, and each clause reads
the cause off. -/
theorem eachReasonHasItsOneCause : Obligations.EachReasonHasItsOneCause := by
  intro b s t valid reason h hsink
  obtain ⟨u, hr, rfl⟩ := exec_rxByte_next h
  cases receive_done hr hsink with
  | valid hdata hflag many => simp [hdata, hflag, many]
  | crcMismatch hdata hflag many => simp [hdata, hflag, many]
  | runt hdata hflag one => simp [hdata, hflag, one]
  | badEscape hesc broken received => simp [hesc, broken, received]
  | rawOverflow hdata hflag hesc full => simp [hdata, hflag, hesc, full]
  | pairOverflow hesc pair full => simp [hesc, pair, full]

end Sys2Proof.Machine
end

section
/-! R250: an assertion of reset, power-on and `RESET 7` leave the same elements. -/

namespace Sys2Proof.Machine

/-- `RESET 7` selects the three units, and R34 gives nothing outside them. -/
theorem resetUnits_seven (s : State) : s.resetUnits 7 = s.powerOn := by
  have hcrc : selectsCrc 7 = true := by decide
  have htx : selectsTx 7 = true := by decide
  have hrx : selectsRx 7 = true := by decide
  simp only [resetUnits_eq, hcrc, htx, hrx, if_true, State.powerOn]

theorem exec_reset_seven (s : State) :
    exec (.reset 7) s = .next (s.powerOn.respond .ok 0) := by
  rw [exec_reset, resetUnits_seven]

/-- The seven elements are those of power-on with the same parameters (R34). -/
theorem powerOn_sameElements_resetWith (s : State) :
    sameElements (State.resetWith s.cfg) s.powerOn := by
  simp [sameElements, sameCrcUnit, sameTx, sameRx]

/-- A response is an output and no element. -/
theorem respond_sameElements (s : State) (st : Status) (d : Half) :
    sameElements s (s.respond st d) := by
  simp [sameElements, sameCrcUnit, sameTx, sameRx]

/-- Settles O11: the asserted reset and `RESET 7` are both `State.powerOn`, the command with a
response after it. -/
theorem assertedResetRestoresEveryElement : Obligations.AssertedResetRestoresEveryElement := by
  intro s rest hwf hi
  have asserted : step s = .next { s with inputs := rest }.powerOn := step_of_assertReset hwf hi
  exact ⟨asserted, powerOn_sameElements_resetWith s, s.powerOn.respond .ok 0, exec_reset_seven s,
    respond_sameElements s.powerOn .ok 0⟩

end Sys2Proof.Machine
end

section
/-! R35, log 8: where a command is refused, by the terminator that reads a held byte that is not
there, and only there. -/

namespace Sys2Proof.Machine

section
variable {s : State}

/-- `END_FRAME` has no meaning exactly where it compares two held bytes and does not hold them. -/
theorem endFrame_eq_none_iff : s.endFrame = none ↔ 2 ≤ s.rxCount ∧ s.rxHold.length < 2 := by
  refine ⟨fun undefined => ?_, fun ⟨many, few⟩ => Option.eq_none_iff_forall_ne_some.mpr ?_⟩
  · have notEmpty : s.rxCount ≠ 0 := fun h => by simp [endFrame_of_empty h] at undefined
    have notRunt : s.rxCount ≠ 1 := fun h => by simp [endFrame_of_runt h] at undefined
    refine ⟨by omega, ?_⟩
    match hhold : s.rxHold with
    | [] | [_] => simp
    | first :: second :: more => simp [State.endFrame, notEmpty, notRunt, hhold] at undefined
  · intro t defined
    rcases endFrame_cases defined with ⟨empty, -⟩ | ⟨runt, -⟩ | ⟨-, first, second, more, held, -⟩
    · omega
    · omega
    · simp [held] at few

/-- A received byte has no meaning exactly where it ends a frame that has none. -/
theorem receive_eq_none_iff {b : Byte} :
    s.receive b = none ↔ b = s.cfg.flag ∧ s.rxState = .data ∧ s.endFrame = none := by
  cases hstate : s.rxState with
  | hunt => simp [State.receive, hstate]
  | esc => simp [State.receive, hstate]
  | data =>
    by_cases hflag : b = s.cfg.flag
    · subst hflag
      simp [receive_data_flag hstate]
    by_cases hesc : b = s.cfg.esc
    · subst hesc
      simp [receive_data_esc hstate hflag, hflag]
    · simp [receive_data_raw hstate hflag hesc, hflag]

/-- Of the commands only `RX.BYTE` can be refused, with one reason: its byte has no meaning. -/
theorem exec_eq_refused_iff {i : Instr} {r : Refusal} :
    exec i s = .refused r ↔ r = .brokenHoldback ∧ ∃ b, i = .rxByte b ∧ s.receive b = none := by
  cases i with
  | rxByte b =>
    cases received : s.receive b with
    | some t => simp [exec_rxByte_of_receive received, received]
    | none => simp [exec, execRxByte, received, eq_comm]
  | nop | reset | query | crcInit | crcLoad | crcUpdate | crcRead | txStart | txData | txEnd =>
    exact iff_of_false nofun nofun

end

/-- Settles O15: down from the command to the received byte to `END_FRAME`. -/
theorem onlyABrokenHoldbackIsRefused : Obligations.OnlyABrokenHoldbackIsRefused := by
  intro i s r
  simp only [exec_eq_refused_iff, receive_eq_none_iff, endFrame_eq_none_iff]
  refine and_congr_right fun _ => ⟨?_, ?_⟩
  · rintro ⟨b, rfl, rfl, broken⟩
    exact ⟨rfl, broken⟩
  · rintro ⟨rfl, broken⟩
    exact ⟨_, rfl, rfl, broken⟩

end Sys2Proof.Machine
end

section
/-! R35 at reset. -/

namespace Sys2Proof.Machine

/-- Reset leaves no frame open, and a cleared frame meets the invariants (R34). -/
theorem resetWith_inv (p : Params) : (State.resetWith p).Inv := .of_clear rfl rfl rfl

/-- The model's reset state is that of `DEFAULT` with its free `RX_MAX` (log 2, log 3). -/
theorem reset_eq_resetWith_defaultProfile :
    State.reset = State.resetWith (Params.defaultProfile (Config.rxMaxBeyondTwo + 2)) := rfl

/-- Settles O51: the invariants hold for every parameter set, so for that of the reset state. -/
theorem invariantsHoldAtReset : Obligations.InvariantsHoldAtReset :=
  ⟨resetWith_inv, resetWith_inv Config.params,
    _, Nat.le_add_left 2 Config.rxMaxBeyondTwo, reset_eq_resetWith_defaultProfile⟩

end Sys2Proof.Machine
end
